-- ==== Sys2Proof/Word.lean ====
section
/-! DEFINITION. The plain words of the CX48 model: bytes, the numbering of lines, links, profiles and table
entries, and the sets that Formats (R190, section 12.1) lays out as bits. -/

namespace Sys2Proof

/-- One byte, as every frame, page and image is made of. -/
abbrev Byte := BitVec 8

/-- A run of bytes, lowest offset first. -/
abbrev Bytes := List Byte

/-- A line. The manual numbers lines 1 to 48; line `n` is the value `n - 1` here (`lineNumber`). -/
abbrev LineNo := Fin 48

/-- A line link, A to F (R14), as 0 to 5. -/
abbrev LinkNo := Fin 6

/-- A profile number, which is also its rank (R29). -/
abbrev ProfileNo := Fin 16

/-- A set of profiles; bit `p` stands for profile `p`. -/
abbrev ProfileSet := BitVec 16

/-- A set of lines; bit `n - 1` stands for line `n`. -/
abbrev LineSet := BitVec 48

/-- A set of test steps: bit 0 FOREIGN_V, 1 LOOP_R, 2 CAP, 3 INSUL. -/
abbrev StepSet := BitVec 4

/-- A set of request origins: bit 0 ON_DEMAND, 1 AUTO, 2 SCHEDULED. -/
abbrev OriginSet := BitVec 3

/-- A set of event kinds; bit `k` stands for the `k`-th kind of the event table (section 10.4). -/
abbrev KindSet := BitVec 20

end Sys2Proof
end

