-- ==== Sys2Proof/Syntax.lean ====
section
/-! DEFINITION. The commands of the CX48: one constructor of `Instr` for each row of spec/opcode_table.json, with what the
message or event of that row carries. The timer expiries and the ends of operations carry nothing, or the line or link
they are about; the management requests carry nothing, since their fields stand in the frame at the head of the request
queue (R172). -/

namespace Sys2Proof

/-- A page of the exchange as it travels on the line link: its 6 bytes (section 12.4). -/
structure RawPage where
  b0 : Byte
  b1 : Byte
  b2 : Byte
  b3 : Byte
  b4 : Byte
  b5 : Byte
  deriving DecidableEq, Repr, Inhabited

/-- The four measurements of a pair, in the order in which a test runs them (R141). -/
inductive TestStep where
  | foreignV | loopR | cap | insul
  deriving DecidableEq, Repr, Inhabited

/-- What a result message of the measurement unit carries for its step (R152), before clamping. -/
inductive Measurement where
  | foreignV (tipRing tipGround ringGround : Int)
  | loopR (vs i : Int)
  | cap (c : Int)
  | insul (vs i : Int)
  deriving DecidableEq, Repr

/-- The commands. Where a message names a line, the number is as received (1 to 48 for a line of the part). -/
inductive Instr where
  | coldStart (straps : BitVec 4) (feedOk : Bool)
  | imageLoadDone (data : Bytes)
  | warmRestart (feedOk : Bool)
  | energyReport (link : LinkNo) (line level : Nat)
  | losReport (link : LinkNo) (line : Nat)
  | pageRx (link : LinkNo) (line : Nat) (page : RawPage)
  | frameUp (link : LinkNo) (line : Nat) (frame : Bytes) (errored : Bool)
  | ready (link : LinkNo) (line count : Nat)
  | linkSilenceTimeout (link : LinkNo)
  | backoffEnd (line : LineNo)
  | idleExpiry (line : LineNo)
  | pageTimeout (line : LineNo)
  | uplinkLinkUp
  | uplinkLinkDown
  | referenceMarkedValid
  | referenceMarkedNotValid
  | rateReport (frame : Bytes)
  | hold (frame : Bytes)
  | holdEnd
  | downstreamFrame (frame : Bytes)
  | requestArrival (frame : Bytes)
  | transmissionEnd
  | millisecondTick (feedOk : Bool)
  | reshareCompletion
  | feedSettled
  | pollStart
  | pollResult (reading : Option Int)
  | pollTimeout
  | entryFallback
  | buttonPress
  | quietTimerExpiry
  | connectConfirm (line : Nat)
  | prepareTimeout
  | measurementResult (line : Nat) (value : Measurement)
  | measureTimeout
  | releaseConfirm (line : Nat)
  | restoreTimeout
  | retryTimeout
  | notificationBuild
  | holdoffEnd
  | readEntries
  | writeService
  | writeProfile
  | writeProfileSettings
  | writeForwarding
  | writeUplinkSettings
  | writePowerTable
  | writeTestTable
  | writeTimeSettings
  | writeAlarm
  | writeEventEnable
  | writeManagementSettings
  | readCounters
  | readEvents
  | clearEvents
  | requestTest
  | cancelTest
  | unblockLine
  | forceRetrain
  | setTime
  | enterDormant
  | restart
  | restartFallback
  | saveImage
  | saveReadbackDone (data : Bytes)
  | saveTimeout
  | imageReadTimeout
  | saveEraseOrProgramDone
  | resetNLow
  | unknownRequest
  deriving DecidableEq, Repr

end Sys2Proof
end

