-- ==== Sys2Proof/Decode.lean ====
section
/-! DEFINITION. The host's question "which command does a word of the table's bits spell". No row of spec/opcode_table.json
gives bits (every row's `fields` is empty, and none has `fixed`): the commands of the CX48 are messages and events, not
words. So no word spells a command. The layouts the manual does give (Formats, chapter 12) are in Machine/Operands.lean,
Machine/Formats.lean and Machine/Requests.lean. -/

namespace Sys2Proof

/-- The command that the low `nbits` bits of `w` spell by the table: none, for no row gives bits. -/
def decodeTableWord (_nbits _w : Nat) : Option Instr := none

end Sys2Proof
end

