-- ==== Sys2Proof/Config.lean ====
section
/-! DEFINITION. The fixed quantities of the part, each with the rule that states it. The manual leaves no result of a
command open, so there is no free value here (INVENTORY.md, "What the manual leaves open"). -/

namespace Sys2Proof.Config

/-- R49: cells in the buffer pool. -/
def poolCells : Nat := 3072
/-- R49: bytes in a cell. -/
def cellBytes : Nat := 128
/-- R51: the exhaustion episode ends at the first return of cells that leaves more than this many free. -/
def poolClearAbove : Nat := 64
/-- R62: the largest READY credit. -/
def readyMax : Nat := 4
/-- R15: ms of silence at which a link is LOST. -/
def silenceMs : Nat := 100
/-- R9: the longest training backoff, in ms. -/
def backoffMax : Nat := 64000
/-- R37: timeout re-sends of one step. -/
def resendMax : Nat := 3
/-- R40: extension steps of one exchange. -/
def extensionMax : Nat := 8
/-- R71: the largest reported rate. -/
def rateMax : Nat := 10000000
/-- R96: the longest hold, in ms. -/
def holdMax : Nat := 1000
/-- R98: frames in the outbound control queue. -/
def controlMax : Nat := 4
/-- R171: requests in the request queue. -/
def requestMax : Nat := 4
/-- R108: ms from the start of one poll to the start of the next. -/
def pollMs : Nat := 1000
/-- R108: ms within which a poll has to complete. -/
def pollLimitMs : Nat := 50
/-- R122, R187: ms after which a pending entry or restart no longer waits for its response. -/
def fallbackMs : Nat := 100
/-- R189: ms within which the operations of a save have to complete. -/
def saveLimitMs : Nat := 3000
/-- R133: entries of the Test Queue. -/
def testQueueMax : Nat := 12
/-- R116, R129: the last value of a stamp count. -/
def stampMax : Nat := 4294967295
/-- R163: the largest 48-bit millisecond count. -/
def timeMax : Nat := 281474976710655
/-- R153, R154: the recorded value that means "at least this". -/
def resistanceMax : Nat := 9999999
/-- R176: payload bytes of a read. -/
def payloadMax : Nat := 1400
/-- R185: the default base of the management address, 0x02 0xD7 0xC4 0x80 0x00 0x00. -/
def addressBase : BitVec 48 := 0x02D7C4800000#48
/-- Section 12.5: bytes of the keep image. -/
def imageBytes : Nat := 8192

end Sys2Proof.Config
end

