-- ==== Sys2Proof/Machine/State.lean ====
section
/-! DEFINITION. The state of the CX48: every table, record, queue, counter, timer, mode and pin the manual names, as plain data;
the reasons a step can stop; and the state after reset. Queue depths, the class summary, the committed power, the wait entry
kind of a Line Record and the priority of a test request are derived from what is held here, since the manual defines each as
such (R3, R52, R112, R129, R181). -/

namespace Sys2Proof.Machine

/-! ## Tables (chapters 1 to 6, 8 to 10) -/

/-- R1. An entry of the Service Table. The defaults are the Empty column. -/
structure ServiceEntry where
  enabled : Bool := false
  upTag : Nat := 0
  allowed : ProfileSet := 0
  weight : Nat := 1
  guarantee : Nat := 0
  burst : Nat := 12288
  borrow : Bool := false
  upqCells : Nat := 16
  dnqCells : Nat := 16
  idleMs : Nat := 0
  shedClass : Nat := 2
  autoRetrains : Nat := 0
  autoWindowS : Nat := 60
  lineId : Nat := 0
  deriving DecidableEq, Repr, Inhabited

/-- R29. An entry of the Profile Table. -/
structure Profile where
  valid : Bool := false
  downKbps : Nat := 0
  upKbps : Nat := 0
  trickleKbps : Nat := 0
  reach : Nat := 0
  maxAtten : Nat := 0
  activeMw : Nat := 0
  idleMw : Nat := 0
  idleAllowed : Bool := false
  deriving DecidableEq, Repr, Inhabited

/-- R63. An entry of the Forwarding Table; `line` is the line number as stored, 0 to 48. -/
structure Forward where
  valid : Bool := false
  tag : Nat := 0
  line : Nat := 0
  deriving DecidableEq, Repr, Inhabited

/-- R72. The Uplink Settings. -/
structure UplinkSettings where
  pinned : Nat := 0
  headroom : Nat := 90
  hysteresis : Nat := 5
  deriving DecidableEq, Repr, Inhabited

/-- R105. The Power Table. -/
structure PowerTable where
  budgetNormal : Nat := 0
  budgetHoldup : Nat := 0
  budgetReserve : Nat := 0
  listenMw : Nat := 0
  trainMw : Nat := 0
  energyThreshold : Nat := 0
  cutoffMv : Nat := 42000
  reserveMv : Nat := 46000
  recoverMv : Nat := 50000
  saveIdleMs : Nat := 0
  feedSettleMs : Nat := 3000
  promoteCells : Nat := 8
  wakeOnFeed : Bool := false
  wakeOnButton : Bool := false
  wakeOnEnergy : Bool := false
  deriving DecidableEq, Repr, Inhabited

/-- R160. The Test Table. -/
structure TestTable where
  prepareMs : Nat := 2000
  measureMs : Nat := 5000
  restoreMs : Nat := 2000
  quietMs : Nat := 5000
  maxDefers : Nat := 3
  hazardMv : Nat := 50000
  openOhms : Nat := 20000
  insulMinKohm : Nat := 1000
  capPerKm : Nat := 50
  testMw : Nat := 0
  deriving DecidableEq, Repr, Inhabited

/-- R162, R164. The two references: LOCAL, the local oscillator, and UPLINK, the clock recovered by the terminal. -/
inductive Reference where
  | oscillator | recovered
  deriving DecidableEq, Repr, Inhabited

/-- R162. The Time Settings. -/
structure TimeSettings where
  reference : Reference := .oscillator
  localKhz : Nat := 20000
  localFrac : Nat := 0
  uplinkKhz : Nat := 25000
  uplinkFrac : Nat := 0
  deriving DecidableEq, Repr, Inhabited

/-- R167. What an alarm does when it fires. -/
inductive AlarmAction where
  | wake | windowOpen | windowClose | testLines
  deriving DecidableEq, Repr, Inhabited

/-- R167. An entry of the Alarm Table. -/
structure Alarm where
  enabled : Bool := false
  time : Nat := 0
  periodMs : Nat := 0
  action : AlarmAction := .wake
  lines : LineSet := 0
  steps : StepSet := 0
  deriving DecidableEq, Repr, Inhabited

/-- R178. The Management Settings. The management address after a bad image is formed from the straps (R185). -/
structure MgmtSettings where
  mgmtAddress : BitVec 48 := Config.addressBase
  stationAddress : BitVec 48 := 0
  holdoffMs : Nat := 2000
  deriving DecidableEq, Repr, Inhabited

/-- The eleven tables the station loads (R175), which are also what the keep image holds. -/
structure Tables where
  service : Vector ServiceEntry 48 := Vector.replicate 48 {}
  profiles : Vector Profile 16 := Vector.replicate 16 {}
  pageMs : Nat := 500
  forwarding : Vector Forward 192 := Vector.replicate 192 {}
  uplink : UplinkSettings := {}
  power : PowerTable := {}
  test : TestTable := {}
  time : TimeSettings := {}
  alarms : Vector Alarm 8 := Vector.replicate 8 {}
  eventEnable : KindSet := BitVec.allOnes 20
  mgmt : MgmtSettings := {}
  deriving DecidableEq, Repr, Inhabited

/-- The keep image (chapter 11): a save count and the tables. Its bytes are `Image.bytes`. -/
structure Image where
  count : Nat := 0
  tables : Tables := {}
  deriving DecidableEq, Repr, Inhabited

/-! ## Lines (chapters 1 to 3) -/

/-- Section 1.3. The eight line states, in the order of their codes. -/
inductive LineState where
  | down | parked | listening | training | active | idleLow | testing | blocked
  deriving DecidableEq, Repr, Inhabited

/-- The mode a LINE_MODE command sets in the transceiver (section 1.3), with the rates it carries (R29). -/
inductive LineMode where
  | off | listen | train
  | run (profile : ProfileNo) (downKbps upKbps : Nat)
  | trickle (profile : ProfileNo) (kbps : Nat)
  | released
  deriving DecidableEq, Repr, Inhabited

/-- R17, R18. The idle timer: stopped, counting, or past its limit at a tick with the expiry not yet taken. -/
inductive IdleTimer where
  | stopped | running (ms : Nat) | expired
  deriving DecidableEq, Repr, Inhabited

/-- R26. The seven counters of a line. -/
structure Counters where
  framesUp : Nat := 0
  framesDown : Nat := 0
  dropsUp : Nat := 0
  dropsDown : Nat := 0
  crcErr : Nat := 0
  los : Nat := 0
  retrains : Nat := 0
  deriving DecidableEq, Repr, Inhabited

/-- R52. A frame held in a line queue: its bytes as held, and upstream the tag value inserted at acceptance. -/
structure Frame where
  data : Bytes
  tag : Option Nat := none
  deriving DecidableEq, Repr, Inhabited

/-- R32. The kinds of page. -/
inductive PageKind where
  | base | ext | select
  deriving DecidableEq, Repr, Inhabited

/-- R33. The phases of an exchange. -/
inductive Phase where
  | base | extension | select
  deriving DecidableEq, Repr, Inhabited

/-- R42. The state a resolution chooses for the line. -/
inductive Service where
  | active | idleLow
  deriving DecidableEq, Repr, Inhabited

/-- R33. The exchange record. The expected toggle is `step` modulo 2. `limit` is the page_ms the page timer started with (R30). -/
structure Exchange where
  phase : Phase := .base
  step : Nat := 0
  lastPage : RawPage
  prevKind : Option PageKind := none
  resends : Nat := 0
  timer : Nat := 0
  limit : Nat
  extSteps : Nat := 0
  partMore : Bool
  modemMore : Bool := false
  advertised : ProfileSet
  lineId : Nat
  chosen : Option (ProfileNo × Service) := none
  deriving DecidableEq, Repr, Inhabited

/-- R3. The Line Record, with what other rules keep for each line: the counters (R26), the two queues (R52), the READY credit
(R62), the idle timer (R17), the exchange record (R33) and the mode last commanded (section 1.3). -/
structure Line where
  state : LineState := .down
  running : Option ProfileNo := none
  ability : ProfileSet := 0
  powerSave : Bool := false
  attenuation : Option Nat := none
  identity : Option Nat := none
  loopLength : Option Nat := none
  allocation : Nat := 0
  ceiling : Nat := 0
  credit : Nat := 0
  upq : List Frame := []
  dnq : List Frame := []
  failures : Nat := 0
  backoff : Nat := 0
  windowStart : Option Nat := none
  retrains : Nat := 0
  cost : Nat := 0
  lastFrame : Option Nat := none
  mode : LineMode := .off
  idle : IdleTimer := .stopped
  exchange : Option Exchange := none
  ready : Nat := 0
  counters : Counters := {}
  deriving DecidableEq, Repr, Inhabited

/-- R15. A line link: its state and its silence timer. -/
structure Link where
  up : Bool := true
  silence : Nat := 0
  deriving DecidableEq, Repr, Inhabited

/-- R49, R51, R68. The buffer pool's free count and episode flag, and the uplink receive counters. -/
structure Pool where
  free : Nat := Config.poolCells
  exhausted : Bool := false
  oversize : Nat := 0
  undersize : Nat := 0
  unknownTag : Nat := 0
  deriving DecidableEq, Repr, Inhabited

/-! ## Uplink and share (chapters 4 and 5) -/

/-- What a frame of the outbound control queue is, for the rules that wait for it to leave: a notification (R183), the response
of an accepted Enter Dormant (R122), the response of the first Restart (R187), or any other response. -/
inductive CtlRole where
  | response | notification | dormantResponse | restartResponse
  deriving DecidableEq, Repr, Inhabited

/-- R98. A frame of the outbound control queue. -/
structure CtlFrame where
  data : Bytes
  role : CtlRole := .response
  deriving DecidableEq, Repr, Inhabited

/-- R57, R101. What the transmitter is sending: the head of the control queue, or the head of a line's upstream queue. -/
inductive TxSource where
  | control | line (l : LineNo)
  deriving DecidableEq, Repr, Inhabited

/-- The Uplink Port: link state (R70), capacity (R71 to R74), hold timer (R96), control queue (R98), transmitter and arbiter
positions (R100). `terminalOn` is no while the Power Controller holds the terminal disabled (R124). -/
structure UplinkPort where
  up : Bool := false
  terminalOn : Bool := true
  refValid : Bool := false
  reported : Nat := 0
  effective : Nat := 0
  basis : Nat := 0
  hold : Nat := 0
  control : List CtlFrame := []
  tx : Option TxSource := none
  eligiblePos : Nat := 0
  borrowPos : Nat := 0
  deriving DecidableEq, Repr, Inhabited

/-- R81. What a reshare takes of one counted line. -/
structure ShareInput where
  line : LineNo
  weight : Nat
  guarantee : Nat
  ceiling : Nat
  deriving DecidableEq, Repr, Inhabited

/-- R81, R83. A reshare in flight: its snapshot and its departed set. -/
structure Flight where
  c : Nat
  lines : List ShareInput
  departed : LineSet := 0
  deriving DecidableEq, Repr, Inhabited

/-- R77. The Share Engine; the allocations stand in the Line Records, and in_flight is that a flight is held. -/
structure ShareEngine where
  snapshot : Nat := 0
  spare : Nat := 0
  oversubscribed : Bool := false
  flight : Option Flight := none
  again : Bool := false
  deriving DecidableEq, Repr, Inhabited

/-! ## Power (chapter 6) -/

/-- R109. The supply modes. -/
inductive Mode where
  | normal | holdup | reserve | dormant
  deriving DecidableEq, Repr, Inhabited

/-- R116. The transitions a wait entry can wait for. -/
inductive WaitKind where
  | listen | train | promote
  deriving DecidableEq, Repr, Inhabited

/-- R116. An entry of the Power Wait Queue. -/
structure WaitEntry where
  line : LineNo
  kind : WaitKind
  cls : Nat
  stamp : Nat
  need : Option Nat := none
  deriving DecidableEq, Repr, Inhabited

/-- R126. The wake sources. -/
inductive WakeSource where
  | feed | button | energy | alarm
  deriving DecidableEq, Repr, Inhabited

/-- R126. A wake cause: its source, the line number or alarm index (0 where the source has none) and the cabinet time. -/
structure WakeCause where
  source : WakeSource
  index : Nat := 0
  time : Nat
  deriving DecidableEq, Repr, Inhabited

/-- R126. The wake latches. -/
structure Latches where
  feed : Bool := false
  button : Bool := false
  energy : Bool := false
  alarm : Bool := false
  deriving DecidableEq, Repr, Inhabited

/-- The Power Controller. `awaiting` is yes from a restart until its first poll has ended (R111); `settleDue` and `wakeTaken`
stand for a settled change whose step is not yet taken (R107) and a wake whose exit is not yet made (R127). -/
structure PowerCtl where
  settled : Bool := false
  settleCount : Nat := 0
  settleDue : Bool := false
  sample : Option Int := none
  failures : Nat := 0
  polling : Bool := false
  pollTimer : Nat := 0
  mode : Mode := .reserve
  awaiting : Bool := true
  testCommit : Nat := 0
  wait : List WaitEntry := []
  stampCount : Nat := 0
  latches : Latches := {}
  wakeTaken : Bool := false
  lastCause : Option WakeCause := none
  entryPending : Bool := false
  entryTimer : Nat := 0
  deriving DecidableEq, Repr, Inhabited

/-! ## Tests (chapters 7 and 8) -/

/-- R129. A test request record. -/
structure TestReq where
  line : LineNo
  origins : OriginSet
  steps : StepSet
  force : Bool := false
  defers : Nat := 0
  stamp : Nat := 0
  tag : Option Nat := none
  deriving DecidableEq, Repr, Inhabited

/-- R139. The states of the test bus. -/
inductive BusState where
  | idle | prepare | measure | restore | fault
  deriving DecidableEq, Repr, Inhabited

/-- R139, R158. What became of a step; NOT_RUN is a step outside the list. -/
inductive StepOutcome where
  | notRun | pending | done | timedOut | skipped
  deriving DecidableEq, Repr, Inhabited

/-- R139, R158. The outcome of each of the four steps. -/
structure Outcomes where
  foreignV : StepOutcome := .notRun
  loopR : StepOutcome := .notRun
  cap : StepOutcome := .notRun
  insul : StepOutcome := .notRun
  deriving DecidableEq, Repr, Inhabited

/-- R157, R158. The verdicts, in the order of their codes (section 12.3). -/
inductive Verdict where
  | hazard | abortedFault | abortedPower | cancelled | deferredOut | openLoop | lowInsulation | incomplete | pass
  deriving DecidableEq, Repr, Inhabited

/-- R152 to R155. The values a test has gathered and what the part computed from them. -/
structure Values where
  foreign : Option (Int × Int × Int) := none
  /-- Vs, I, loop resistance and open flag -/
  loop : Option (Nat × Nat × Nat × Bool) := none
  capacitance : Option Nat := none
  length : Option Nat := none
  /-- Vs, I and insulation resistance -/
  insulation : Option (Nat × Nat × Nat) := none
  deriving DecidableEq, Repr, Inhabited

/-- R161. The judgement settings, copied when the bus enters MEASURE. -/
structure Judgement where
  hazardMv : Nat
  openOhms : Nat
  insulMinKohm : Nat
  capPerKm : Nat
  deriving DecidableEq, Repr, Inhabited

/-- R139. The current test record. -/
structure CurrentTest where
  req : TestReq
  outcomes : Outcomes
  current : Option TestStep := none
  timeouts : Nat := 0
  values : Values := {}
  verdict : Option Verdict := none
  stageTimer : Nat := 0
  commitHeld : Bool := false
  retry : Bool := false
  startTime : Nat
  judgement : Option Judgement := none
  deriving DecidableEq, Repr, Inhabited

/-- The Test Controller: queue (R133), order stamp count (R129), bus (R139), current test, quiet timer (R137). `quietDue` is yes
when the quiet timer has reached 0 and its expiry is not yet taken. -/
structure TestCtl where
  queue : List TestReq := []
  stampCount : Nat := 0
  bus : BusState := .idle
  current : Option CurrentTest := none
  quiet : Nat := 0
  quietDue : Bool := false
  deriving DecidableEq, Repr, Inhabited

/-- R158. A record of the Results Table; the defaults are the empty record. -/
structure ResultRec where
  verdict : Option Verdict := none
  endTime : Nat := 0
  origins : OriginSet := 0
  tag : Option Nat := none
  steps : StepSet := 0
  outcomes : Outcomes := {}
  values : Values := {}
  deriving DecidableEq, Repr, Inhabited

/-! ## Time, management and image (chapters 9 to 11) -/

/-- R163 to R170. The Time Base. `msLength` is the length, in periods, of the millisecond in progress. -/
structure TimeBase where
  now : Nat := 0
  inUse : Reference := .oscillator
  periodCount : Nat := 0
  phase : Nat := 0
  msLength : Nat := 20000
  windowOpen : Bool := true
  deriving DecidableEq, Repr, Inhabited

/-- Section 10.4. The event kinds of the LINE class. -/
inductive LineEvent where
  | lineUp | lineLost | trainFail | shed
  deriving DecidableEq, Repr, Inhabited

/-- Section 10.4. The event kinds outside the LINE class, in the order of the event table. -/
inductive PartEvent where
  | testDone | testHazard | testDropped | modeChange | wake | capacityChange | oversubscribed | uplinkDown | uplinkUp
  | poolExhausted | restart | imageBad | imageSaved | imageFailed | referenceLost | malformedRequest
  deriving DecidableEq, Repr, Inhabited

/-- R181. A state of the event kinds: a line set for each LINE kind, and a bit for each kind outside the class. -/
structure EventSet where
  lineUp : LineSet := 0
  lineLost : LineSet := 0
  trainFail : LineSet := 0
  shed : LineSet := 0
  part : BitVec 16 := 0
  deriving DecidableEq, Repr, Inhabited

/-- R185, R187. The kinds of restart. -/
inductive RestartKind where
  | cold | warm
  deriving DecidableEq, Repr, Inhabited

/-- R183. The notification state. -/
inductive NotifState where
  | idle | due | queued | holdoff
  deriving DecidableEq, Repr, Inhabited

/-- The Management Unit: request queue (R171), pending and last-notified state with their details (R181), notification state
and holdoff timer (R183), and the restart pending flag with its count (R187). -/
structure Mgmt where
  requests : List Bytes := []
  pending : EventSet := {}
  last : EventSet := {}
  restartDetail : Option RestartKind := none
  wakeDetail : Option WakeCause := none
  notif : NotifState := .idle
  holdoff : Nat := 0
  restartPending : Option RestartKind := none
  restartTimer : Nat := 0
  deriving DecidableEq, Repr, Inhabited

/-- R188. Where a save stands; the save state is IDLE in `.idle` and SAVING in the others. -/
inductive SavePhase where
  | idle | erasing | programming | readingBack
  deriving DecidableEq, Repr, Inhabited

/-- R188, R189. How far the part's saves have come with the image region: it is as it was found at power-on; an erase has been
commanded and the programming is not complete; or an image has been programmed. No rule reads it: what the region holds is what
the flash answers. DEDUCED (assumption 20), safe. -/
inductive Region where
  | asFound | partly | programmed (image : Image)
  deriving DecidableEq, Repr, Inhabited

/-- The Image Store (chapter 11). -/
structure ImageStore where
  phase : SavePhase := .idle
  count : Nat := 0
  building : Option Image := none
  timer : Nat := 0
  region : Region := .asFound
  deriving DecidableEq, Repr, Inhabited

/-- R185, R187. Where the part stands: in the load of a cold start, running, or held by RESET_N.
DESIGN CHOICE (assumption 9), unsafe. -/
inductive Stage where
  | load | run | held
  deriving DecidableEq, Repr, Inhabited

/-- The pins whose level a rule reads: FEED_OK as last sampled (R107) and the four ADDR straps (R185).
DESIGN CHOICE (assumption 7), unsafe. DESIGN CHOICE (assumption 33), safe. -/
structure Pins where
  feedOk : Bool := false
  straps : BitVec 4 := 0
  deriving DecidableEq, Repr, Inhabited

/-- What the part sends at its attachments. DESIGN CHOICE (assumption 22), safe. -/
inductive OutMsg where
  | lineMode (l : LineNo) (mode : LineMode)
  | sendPage (l : LineNo) (page : RawPage)
  | frameDown (l : LineNo) (data : Bytes)
  | releaseForTest (l : LineNo)
  | connect (l : LineNo)
  | release (l : Option LineNo)
  | measure (l : LineNo) (step : TestStep)
  | uplinkSent (data : Bytes)
  | uplinkErrored (data : Bytes)
  | terminalOn | terminalOff
  | pollBattery
  | flashRead | flashErase | flashProgram (image : Image) | flashReadBack
  deriving DecidableEq, Repr

/-- The notices raised within the step in progress, which its end acts on: a scan of the Power Wait Queue is due (R118), a run
of the test arbiter is due (R135), a requested restart is due (R187). The model's own; all are no between steps.
DESIGN CHOICE (assumption 28), safe. -/
structure Notes where
  scan : Bool := false
  arbiter : Bool := false
  restart : Bool := false
  deriving DecidableEq, Repr, Inhabited

/-- The state of the part. `out` is what the step last taken sent, oldest first, and `notes` and `pending` are the model's own. -/
structure State where
  stage : Stage
  pins : Pins
  time : TimeBase
  tables : Tables
  image : ImageStore
  lines : Vector Line 48
  links : Vector Link 6
  pool : Pool
  uplink : UplinkPort
  share : ShareEngine
  power : PowerCtl
  test : TestCtl
  results : Vector ResultRec 48
  mgmt : Mgmt
  notes : Notes
  out : List OutMsg
  pending : List Instr
  deriving DecidableEq, Repr

/-- No command of the CX48 stops the part: the manual gives every message, in every state, an effect or no effect. So no reason
is declared. Safe: a step that cannot fault forbids nothing the part does. DEDUCED (assumption 39), safe. -/
inductive Fault
  deriving DecidableEq, Repr

/-- The reasons a command has no meaning. -/
inductive Refusal where
  /-- Raised by exec's arm of a command that has no meaning yet, by the name the opcode table gives it. Safe: the model stops. -/
  | notModelled (mnemonic : String)
  deriving DecidableEq, Repr

/-- The messages of a restart: LINE_MODE OFF to every line (R4), then RELEASE on the test port (R151).
DEDUCED (assumption 16), safe. -/
def restartMessages : List OutMsg :=
  (List.finRange 48).map (fun l => OutMsg.lineMode l .off) ++ [.release none]

/-- R185, stage 1: the state of a cold start whose load has begun, from the pins, with the image region as it stands.
The terminal's mark of its recovered reference is forgotten, by a cold start that a Restart request makes as at power-on.
DESIGN CHOICE (assumptions 7 and 46), unsafe. DESIGN CHOICE (assumption 8), safe. DEDUCED (assumption 40), unsafe. -/
def coldState (pins : Pins) (region : Region) (pending : List Instr) : State where
  stage := .load
  pins := pins
  time := {}
  tables := {}
  image := { region := region }
  lines := Vector.replicate 48 {}
  links := Vector.replicate 6 {}
  pool := {}
  uplink := {}
  share := {}
  power := { settled := pins.feedOk }
  test := {}
  results := Vector.replicate 48 {}
  mgmt := {}
  notes := {}
  out := restartMessages ++ [.flashRead]
  pending := pending

/-- The part right after power-on (R185): the load of the keep image has begun, no table is loaded, no command waits.
DESIGN CHOICE (assumption 8), safe. -/
def State.reset : State := coldState {} .asFound []

end Sys2Proof.Machine
end

