-- ==== Sys2Proof/Machine/Operands.lean ====
section
/-! DEFINITION. Reading and writing what commands carry: numbers and their range handling, bytes (most significant first,
chapter 12), sets kept as bits, the numbering of lines and links, pages (section 12.4) and the addressing of uplink frames
(section 12.2). -/

namespace Sys2Proof.Machine

/-! ## Numbers -/

/-- Scope, "Clamping": a value outside `lo..hi` is replaced by the nearest value inside. -/
def clamp (lo hi v : Nat) : Nat := max lo (min hi v)

/-- Clamping of a signed value. -/
def clampInt (lo hi v : Int) : Int := max lo (min hi v)

/-- An increase by 1 that leaves a counter at its maximum (R26). -/
def satInc (limit v : Nat) : Nat := if v < limit then v + 1 else limit

/-- The idle_ms form of a field: 0, or clamped to `lo..hi` (R1, R105, R167). -/
def zeroOrClamp (lo hi v : Nat) : Nat := if v = 0 then 0 else clamp lo hi v

/-! ## Bytes -/

/-- The number that bytes spell, most significant first. -/
def beNat (bs : Bytes) : Nat := bs.foldl (fun n b => n * 256 + b.toNat) 0

/-- A number in `w` bytes, most significant first. -/
def beBytes : Nat → Nat → Bytes
  | 0, _ => []
  | w + 1, v => BitVec.ofNat 8 (v / 256 ^ w) :: beBytes w v

/-- A signed number in `w` bytes, two's complement (section 12.1). -/
def beInt (w : Nat) (v : Int) : Bytes := beBytes w (v % (256 ^ w : Nat)).toNat

/-- yes, no in one byte (section 12.1). -/
def boolByte (b : Bool) : Bytes := [if b then 1 else 0]

/-- A presence byte, then the field; an absent field's bytes are 0 (section 12.1). -/
def optBytes (w : Nat) (f : α → Bytes) : Option α → Bytes
  | none => 0 :: List.replicate w 0
  | some a => 1 :: f a

/-- `w` bytes of a structure from an offset, as a number; bytes beyond its end read as 0. -/
def field (bs : Bytes) (offset w : Nat) : Nat :=
  let taken := (bs.drop offset).take w
  beNat (taken ++ List.replicate (w - taken.length) 0)

/-- A yes, no byte: any value other than 0 is yes (R190). -/
def fieldYes (bs : Bytes) (offset : Nat) : Bool := field bs offset 1 != 0

/-! ## Sets kept as bits -/

/-- The set of the members that satisfy a predicate. -/
def setOf (n : Nat) (p : Fin n → Bool) : BitVec n :=
  (List.finRange n).foldl (fun b i => if p i then b ||| BitVec.twoPow n i.val else b) 0

/-- Membership. -/
def mem (b : BitVec n) (i : Fin n) : Bool := b.getLsbD i.val

/-- The set of one member. -/
def single (i : Fin n) : BitVec n := BitVec.twoPow n i.val

/-- The members, ascending. -/
def members (b : BitVec n) : List (Fin n) := (List.finRange n).filter (mem b)

/-! ## Lines and links -/

/-- Lines in ascending line number. -/
def allLines : List LineNo := List.finRange 48

/-- The number the manual gives a line. -/
def lineNumber (l : LineNo) : Nat := l.val + 1

/-- The line a number names, if it is 1 to 48. -/
def lineOf (n : Nat) : Option LineNo :=
  if h : 1 ≤ n ∧ n ≤ 48 then some ⟨n - 1, by omega⟩ else none

/-- R14: the link that serves a line. -/
def linkOf (l : LineNo) : LinkNo := ⟨l.val / 8, by omega⟩

/-- R14: the eight lines a link serves, ascending. -/
def linesOf (k : LinkNo) : List LineNo := allLines.filter (fun l => linkOf l = k)

/-- R14: the line a message names, when the link it arrived on serves that line. -/
def servedLine (k : LinkNo) (n : Nat) : Option LineNo :=
  match lineOf n with
  | some l => if linkOf l = k then some l else none
  | none => none

/-! ## Pages (R32, section 12.4) -/

/-- The kind of a page; a kind code other than 0, 1, 2 is no kind (R190). -/
def pageKind (p : RawPage) : Option PageKind :=
  match (p.b0 &&& 3#8).toNat with
  | 0 => some .base
  | 1 => some .ext
  | 2 => some .select
  | _ => none

/-- The toggle of a page: bit 4 of byte 0. -/
def pageToggle (p : RawPage) : Nat := if p.b0.getLsbD 4 then 1 else 0

/-- The more flag of a page: bit 5 of byte 0. -/
def pageMore (p : RawPage) : Bool := p.b0.getLsbD 5

/-- The ability set of a BASE page: bytes 1 and 2. -/
def pageAbility (p : RawPage) : ProfileSet := p.b1 ++ p.b2

/-- The power-save flag of a BASE page: byte 3. -/
def pagePowerSave (p : RawPage) : Bool := p.b3 != 0

/-- The code of an EXT page: byte 1 (0 empty, 1 ATTENUATION, 2 IDENTITY, 3 LINE_ID, others unknown). -/
def pageCode (p : RawPage) : Nat := p.b1.toNat

/-- The value of an EXT page: bytes 2 to 5. -/
def pageValue (p : RawPage) : Nat := beNat [p.b2, p.b3, p.b4, p.b5]

/-- The profile of a SELECT page: byte 1. -/
def pageProfile (p : RawPage) : Nat := p.b1.toNat

/-- Byte 0 of a page the part sends. -/
def pageHead (kind : PageKind) (toggle : Nat) (more : Bool) : Byte :=
  (match kind with | .base => 0#8 | .ext => 1#8 | .select => 2#8) |||
    (if toggle % 2 = 1 then 0x10#8 else 0#8) ||| (if more then 0x20#8 else 0#8)

/-- The part's BASE page (R35). -/
def basePage (advertised : ProfileSet) (powerSave more : Bool) : RawPage :=
  ⟨pageHead .base 0 more, advertised.extractLsb' 8 8, advertised.extractLsb' 0 8, if powerSave then 1 else 0, 0, 0⟩

/-- The part's LINE_ID page (R39). -/
def lineIdPage (toggle lineId : Nat) : RawPage :=
  ⟨pageHead .ext toggle false, 3, BitVec.ofNat 8 (lineId / 2 ^ 24), BitVec.ofNat 8 (lineId / 2 ^ 16),
    BitVec.ofNat 8 (lineId / 2 ^ 8), BitVec.ofNat 8 lineId⟩

/-- The part's filler page: an EXT page with the empty code and no value (R39). -/
def fillerPage (toggle : Nat) : RawPage := ⟨pageHead .ext toggle false, 0, 0, 0, 0, 0⟩

/-- The part's SELECT page (R44). -/
def selectPage (toggle : Nat) (p : ProfileNo) : RawPage :=
  ⟨pageHead .select toggle false, BitVec.ofNat 8 p.val, 0, 0, 0, 0⟩

/-! ## Uplink frames (section 12.2) -/

/-- Destination address, offset 0. -/
def frameDest (f : Bytes) : BitVec 48 := BitVec.ofNat 48 (field f 0 6)
/-- Source address, offset 6. -/
def frameSource (f : Bytes) : BitVec 48 := BitVec.ofNat 48 (field f 6 6)
/-- Frame type, offset 12; a frame too short to carry it has none. -/
def frameType (f : Bytes) : Option Nat := if 14 ≤ f.length then some (field f 12 2) else none

/-- The management frame type. -/
def mgmtType : Nat := 0x9A31
/-- The terminal frame type. -/
def terminalType : Nat := 0x9A32
/-- The tag type. -/
def tagType : Nat := 0x9A30

/-- R190: the tag value of a subscriber frame, the low 12 bits of the two bytes after the tag type. -/
def frameTag (f : Bytes) : Option Nat :=
  if frameType f = some tagType ∧ 16 ≤ f.length then some (field f 14 2 % 4096) else none

/-- R56: a frame with the 4-byte tag inserted at offsets 12 to 15. -/
def insertTag (tag : Nat) (f : Bytes) : Bytes := f.take 12 ++ beBytes 2 tagType ++ beBytes 2 tag ++ f.drop 12

/-- R61: a frame with its tag removed. -/
def removeTag (f : Bytes) : Bytes := f.take 12 ++ f.drop 16

/-- R49: the cells a held length occupies. -/
def cellsFor (len : Nat) : Nat := (len + (Config.cellBytes - 1)) / Config.cellBytes

/-- R49: the cells of a held frame. -/
def Frame.cells (f : Frame) : Nat := cellsFor f.data.length

/-- R94: the bits of a held frame. -/
def Frame.bits (f : Frame) : Nat := f.data.length * 8

/-- R52: the depth of a queue, the cells of its entries. -/
def depth (q : List Frame) : Nat := (q.map Frame.cells).sum

end Sys2Proof.Machine
end

