-- ==== Sys2Proof/Machine/Formats.lean ====
section
/-! DEFINITION. The layouts of the tables as written, read and saved (sections 12.1 and 12.3) with the range handling of each table's
rule, and the keep image (section 12.5) with its check (R186). -/

namespace Sys2Proof.Machine

/-! ## Service Table (R1) -/

/-- R1: each field outside its range is treated as the Out of range column states. -/
def ServiceEntry.normal (e : ServiceEntry) : ServiceEntry :=
  { e with
    upTag := min 4094 e.upTag
    weight := clamp 1 255 e.weight
    guarantee := min 1000000 e.guarantee
    burst := clamp 12288 4194304 e.burst
    upqCells := clamp 16 1024 e.upqCells
    dnqCells := clamp 16 1024 e.dnqCells
    idleMs := zeroOrClamp 1000 600000 e.idleMs
    shedClass := min 2 e.shedClass
    autoWindowS := clamp 60 86400 e.autoWindowS }

/-- A Service entry read from its 33 bytes. -/
def readService (b : Bytes) : ServiceEntry := ServiceEntry.normal
  { enabled := fieldYes b 0, upTag := field b 1 2, allowed := BitVec.ofNat 16 (field b 3 2), weight := field b 5 1
    guarantee := field b 6 4, burst := field b 10 4, borrow := fieldYes b 14, upqCells := field b 15 2, dnqCells := field b 17 2
    idleMs := field b 19 4, shedClass := field b 23 1, autoRetrains := field b 24 1, autoWindowS := field b 25 4
    lineId := field b 29 4 }

/-- A Service entry's 33 bytes. -/
def serviceBytes (e : ServiceEntry) : Bytes :=
  boolByte e.enabled ++ beBytes 2 e.upTag ++ beBytes 2 e.allowed.toNat ++ beBytes 1 e.weight ++ beBytes 4 e.guarantee ++
    beBytes 4 e.burst ++ boolByte e.borrow ++ beBytes 2 e.upqCells ++ beBytes 2 e.dnqCells ++ beBytes 4 e.idleMs ++
    beBytes 1 e.shedClass ++ beBytes 1 e.autoRetrains ++ beBytes 4 e.autoWindowS ++ beBytes 4 e.lineId

/-! ## Profile Table (R29) -/

/-- R29: trickle_kbps and idle_mW are clamped against the fields of the same entry after those have been clamped. -/
def Profile.normal (e : Profile) : Profile :=
  { e with
    downKbps := min 1000000 e.downKbps
    upKbps := min 1000000 e.upKbps
    trickleKbps := min (min 1000000 e.upKbps) e.trickleKbps
    maxAtten := min 1000 e.maxAtten
    activeMw := min 5000 e.activeMw
    idleMw := min (min 5000 e.activeMw) e.idleMw }

/-- A Profile Table entry read from its 22 bytes. -/
def readProfile (b : Bytes) : Profile := Profile.normal
  { valid := fieldYes b 0, downKbps := field b 1 4, upKbps := field b 5 4, trickleKbps := field b 9 4, reach := field b 13 2
    maxAtten := field b 15 2, activeMw := field b 17 2, idleMw := field b 19 2, idleAllowed := fieldYes b 21 }

/-- A Profile Table entry's 22 bytes. -/
def profileBytes (e : Profile) : Bytes :=
  boolByte e.valid ++ beBytes 4 e.downKbps ++ beBytes 4 e.upKbps ++ beBytes 4 e.trickleKbps ++ beBytes 2 e.reach ++
    beBytes 2 e.maxAtten ++ beBytes 2 e.activeMw ++ beBytes 2 e.idleMw ++ boolByte e.idleAllowed

/-- R30: page_ms from its 2 bytes. -/
def readPageMs (b : Bytes) : Nat := clamp 200 2000 (field b 0 2)

/-! ## Forwarding Table (R63, R64) -/

/-- A Forwarding Table entry read from its 4 bytes, as written: the clamping of R64 is for entries with valid no. -/
def readForward (b : Bytes) : Forward :=
  let e : Forward := ⟨fieldYes b 0, field b 1 2, field b 3 1⟩
  if e.valid then e else { e with tag := min 4095 e.tag, line := min 48 e.line }

/-- A Forwarding Table entry's 4 bytes. -/
def forwardBytes (e : Forward) : Bytes := boolByte e.valid ++ beBytes 2 e.tag ++ beBytes 1 e.line

/-- R64: the checks of an entry against the other entries of the table. -/
inductive ForwardCheck where
  | stored | badLine | badTag | duplicateTag
  deriving DecidableEq, Repr

/-- R64: some other valid entry holds the tag. -/
def tagTaken (t : List Forward) (i : Nat) (tag : Nat) : Bool :=
  t.zipIdx.any fun e => e.2 ≠ i && e.1.valid && e.1.tag = tag

/-- R64: the first check that fails refuses the entry. -/
def checkForward (t : List Forward) (i : Nat) (e : Forward) : ForwardCheck :=
  if !e.valid then .stored
  else if e.line < 1 || 48 < e.line then .badLine
  else if e.tag < 1 || 4094 < e.tag then .badTag
  else if tagTaken t i e.tag then .duplicateTag
  else .stored

/-! ## Uplink Settings, Power Table, Test Table (R72, R105, R160) -/

/-- The Uplink Settings read from their 6 bytes. -/
def readUplinkSettings (b : Bytes) : UplinkSettings :=
  ⟨min Config.rateMax (field b 0 4), clamp 50 100 (field b 4 1), min 50 (field b 5 1)⟩

/-- The Uplink Settings' 6 bytes. -/
def uplinkBytes (e : UplinkSettings) : Bytes := beBytes 4 e.pinned ++ beBytes 1 e.headroom ++ beBytes 1 e.hysteresis

/-- R105: the range handling, with the thresholds repaired in the order cutoff, reserve, recover. -/
def PowerTable.normal (e : PowerTable) : PowerTable :=
  let cutoff := min 99999 e.cutoffMv
  let reserve := max (cutoff + 1) (clamp 1 100000 e.reserveMv)
  { e with
    listenMw := min 500 e.listenMw
    trainMw := min 5000 e.trainMw
    cutoffMv := cutoff
    reserveMv := reserve
    recoverMv := max reserve (clamp 1 100000 e.recoverMv)
    saveIdleMs := zeroOrClamp 1000 600000 e.saveIdleMs
    feedSettleMs := clamp 100 60000 e.feedSettleMs
    promoteCells := clamp 1 64 e.promoteCells }

/-- The Power Table read from its 33 bytes. -/
def readPower (b : Bytes) : PowerTable := PowerTable.normal
  { budgetNormal := field b 0 2, budgetHoldup := field b 2 2, budgetReserve := field b 4 2, listenMw := field b 6 2
    trainMw := field b 8 2, energyThreshold := field b 10 1, cutoffMv := field b 11 4, reserveMv := field b 15 4
    recoverMv := field b 19 4, saveIdleMs := field b 23 4, feedSettleMs := field b 27 2, promoteCells := field b 29 1
    wakeOnFeed := fieldYes b 30, wakeOnButton := fieldYes b 31, wakeOnEnergy := fieldYes b 32 }

/-- The Power Table's 33 bytes. -/
def powerBytes (e : PowerTable) : Bytes :=
  beBytes 2 e.budgetNormal ++ beBytes 2 e.budgetHoldup ++ beBytes 2 e.budgetReserve ++ beBytes 2 e.listenMw ++
    beBytes 2 e.trainMw ++ beBytes 1 e.energyThreshold ++ beBytes 4 e.cutoffMv ++ beBytes 4 e.reserveMv ++
    beBytes 4 e.recoverMv ++ beBytes 4 e.saveIdleMs ++ beBytes 2 e.feedSettleMs ++ beBytes 1 e.promoteCells ++
    boolByte e.wakeOnFeed ++ boolByte e.wakeOnButton ++ boolByte e.wakeOnEnergy

/-- R160: every field is clamped to its range. -/
def TestTable.normal (e : TestTable) : TestTable where
  prepareMs := clamp 100 10000 e.prepareMs
  measureMs := clamp 100 30000 e.measureMs
  restoreMs := clamp 100 10000 e.restoreMs
  quietMs := min 600000 e.quietMs
  maxDefers := clamp 1 7 e.maxDefers
  hazardMv := clamp 1 200000 e.hazardMv
  openOhms := clamp 1 9999999 e.openOhms
  insulMinKohm := clamp 1 9999999 e.insulMinKohm
  capPerKm := clamp 30 80 e.capPerKm
  testMw := min 5000 e.testMw

/-- The Test Table read from its 26 bytes. -/
def readTest (b : Bytes) : TestTable := TestTable.normal
  { prepareMs := field b 0 2, measureMs := field b 2 2, restoreMs := field b 4 2, quietMs := field b 6 4, maxDefers := field b 10 1
    hazardMv := field b 11 4, openOhms := field b 15 4, insulMinKohm := field b 19 4, capPerKm := field b 23 1
    testMw := field b 24 2 }

/-- The Test Table's 26 bytes. -/
def testBytes (e : TestTable) : Bytes :=
  beBytes 2 e.prepareMs ++ beBytes 2 e.measureMs ++ beBytes 2 e.restoreMs ++ beBytes 4 e.quietMs ++ beBytes 1 e.maxDefers ++
    beBytes 4 e.hazardMv ++ beBytes 4 e.openOhms ++ beBytes 4 e.insulMinKohm ++ beBytes 1 e.capPerKm ++ beBytes 2 e.testMw

/-! ## Time Settings, Alarm Table, Event Enable, Management Settings (R162, R167, R180, R178) -/

/-- A reference from its byte; a value beyond the last is clamped to it (R190). -/
def readReference (n : Nat) : Reference := if n = 0 then .oscillator else .recovered

/-- A reference's code. -/
def Reference.code : Reference → Nat
  | .oscillator => 0
  | .recovered => 1

/-- The Time Settings read from their 13 bytes. -/
def readTimeSettings (b : Bytes) : TimeSettings :=
  ⟨readReference (field b 0 1), clamp 1000 100000 (field b 1 4), field b 5 2, clamp 1000 100000 (field b 7 4), field b 11 2⟩

/-- The Time Settings' 13 bytes. -/
def timeBytes (e : TimeSettings) : Bytes :=
  beBytes 1 e.reference.code ++ beBytes 4 e.localKhz ++ beBytes 2 e.localFrac ++ beBytes 4 e.uplinkKhz ++ beBytes 2 e.uplinkFrac

/-- An alarm action from its byte; a value beyond the last is clamped to it (R190). -/
def readAction : Nat → AlarmAction
  | 0 => .wake
  | 1 => .windowOpen
  | 2 => .windowClose
  | _ => .testLines

/-- An alarm action's code. -/
def AlarmAction.code : AlarmAction → Nat
  | .wake => 0
  | .windowOpen => 1
  | .windowClose => 2
  | .testLines => 3

/-- An Alarm Table entry read from its 19 bytes. -/
def readAlarm (b : Bytes) : Alarm :=
  ⟨fieldYes b 0, field b 1 6, zeroOrClamp 1000 4294967295 (field b 7 4), readAction (field b 11 1), BitVec.ofNat 48 (field b 12 6),
    BitVec.ofNat 4 (field b 18 1)⟩

/-- An Alarm Table entry's 19 bytes. -/
def alarmBytes (e : Alarm) : Bytes :=
  boolByte e.enabled ++ beBytes 6 e.time ++ beBytes 4 e.periodMs ++ beBytes 1 e.action.code ++ beBytes 6 e.lines.toNat ++
    beBytes 1 e.steps.toNat

/-- The Event Enable entry read from its 3 bytes; bits that name no kind are ignored (R190). -/
def readEnables (b : Bytes) : KindSet := BitVec.ofNat 20 (field b 0 3)

/-- The Management Settings read from their 14 bytes. -/
def readMgmt (b : Bytes) : MgmtSettings :=
  ⟨BitVec.ofNat 48 (field b 0 6), BitVec.ofNat 48 (field b 6 6), clamp 100 60000 (field b 12 2)⟩

/-- The Management Settings' 14 bytes. -/
def mgmtBytes (e : MgmtSettings) : Bytes :=
  beBytes 6 e.mgmtAddress.toNat ++ beBytes 6 e.stationAddress.toNat ++ beBytes 2 e.holdoffMs

/-- R178: a management address is usable when it is not all zero and not a group address (lowest bit of the first byte). -/
def usableAddress (a : BitVec 48) : Bool := a != 0 && !a.getLsbD 40

/-! ## The keep image (sections 11, 12.5) -/

/-- R186: one bit of the CRC, polynomial 0x1021, most significant bit first. -/
def crcShift (c : BitVec 16) : BitVec 16 := if c.getLsbD 15 then (c <<< 1) ^^^ 0x1021#16 else c <<< 1

/-- R186: one byte of the CRC. -/
def crcByte (c : BitVec 16) (b : Byte) : BitVec 16 :=
  let x := c ^^^ (b ++ 0#8)
  crcShift (crcShift (crcShift (crcShift (crcShift (crcShift (crcShift (crcShift x)))))))

/-- R186: the CRC-16 of bytes, from 0xFFFF. -/
def crc16 (bs : Bytes) : BitVec 16 := bs.foldl crcByte 0xFFFF#16

/-- Section 12.5: the format word. -/
def formatWord : Bytes := [0x5A, 0x43, 0x34, 0x01]

/-- The write entries of tables 1 to 11, in ascending index. -/
def tablesBytes (t : Tables) : Bytes :=
  t.service.toList.flatMap serviceBytes ++ t.profiles.toList.flatMap profileBytes ++ beBytes 2 t.pageMs ++
    t.forwarding.toList.flatMap forwardBytes ++ uplinkBytes t.uplink ++ powerBytes t.power ++ testBytes t.test ++
    timeBytes t.time ++ t.alarms.toList.flatMap alarmBytes ++ beBytes 3 t.eventEnable.toNat ++ mgmtBytes t.mgmt

/-- The bytes of an image before its CRC field. -/
def imageBody (i : Image) : Bytes := formatWord ++ beBytes 2 i.count ++ tablesBytes i.tables ++ List.replicate 5231 0

/-- Section 12.5: the 8192 bytes of an image. -/
def Image.bytes (i : Image) : Bytes := imageBody i ++ beBytes 2 (crc16 (imageBody i)).toNat

/-- The bytes of entry `i` of a run of entries of `size` bytes from an offset. -/
def entryAt (b : Bytes) (offset size i : Nat) : Bytes := (b.drop (offset + i * size)).take size

/-- R186: the entries of an image's Forwarding Table from a byte sequence, each as a write would store it. -/
def imageForwards (b : Bytes) : Vector Forward 192 := Vector.ofFn fun i => readForward (entryAt b 1944 4 i.val)

/-- Section 12.5: the image that bytes spell, each field as a write would store it. -/
def readImage (b : Bytes) : Image where
  count := field b 4 2
  tables :=
    { service := Vector.ofFn fun i => readService (entryAt b 6 33 i.val)
      profiles := Vector.ofFn fun i => readProfile (entryAt b 1590 22 i.val)
      pageMs := readPageMs (entryAt b 1942 2 0)
      forwarding := imageForwards b
      uplink := readUplinkSettings (entryAt b 2712 6 0)
      power := readPower (entryAt b 2718 33 0)
      test := readTest (entryAt b 2751 26 0)
      time := readTimeSettings (entryAt b 2777 13 0)
      alarms := Vector.ofFn fun i => readAlarm (entryAt b 2790 19 i.val)
      eventEnable := readEnables (entryAt b 2942 3 0)
      mgmt := readMgmt (entryAt b 2945 14 0) }

/-- R186: no Forwarding entry fails the checks of R64 against the entries before it. -/
def forwardsGood (t : List Forward) : Bool :=
  (List.range t.length).all fun i =>
    match t[i]? with
    | some e => checkForward (t.take i) i e = .stored
    | none => true

/-- R186: an image read from the flash is good. -/
def imageGood (b : Bytes) : Bool :=
  b.length = Config.imageBytes &&
    crc16 (b.take 8190) = BitVec.ofNat 16 (field b 8190 2) &&
    b.take 4 = formatWord &&
    forwardsGood (imageForwards b).toList &&
    usableAddress (readImage b).tables.mgmt.mgmtAddress

/-- R185: the tables after a bad image: the Empty values, and the strap address. -/
def emptyTables (straps : BitVec 4) : Tables :=
  { mgmt := { mgmtAddress := Config.addressBase ||| straps.zeroExtend 48 } }

end Sys2Proof.Machine
end

