-- ==== Sys2Proof/Machine/Flags.lean ====
section
/-! DEFINITION. Events: the enables (R180), the pending and last-notified state (R181, R182), and the capture of an event with
its effect on the notification state (R183). -/

namespace Sys2Proof.Machine

/-- The place of a LINE kind in the event table (section 10.4). -/
def LineEvent.index : LineEvent → Fin 20
  | .lineUp => 0
  | .lineLost => 1
  | .trainFail => 2
  | .shed => 3

/-- The place of a kind outside the LINE class among those kinds. -/
def PartEvent.bit : PartEvent → Fin 16
  | .testDone => 0
  | .testHazard => 1
  | .testDropped => 2
  | .modeChange => 3
  | .wake => 4
  | .capacityChange => 5
  | .oversubscribed => 6
  | .uplinkDown => 7
  | .uplinkUp => 8
  | .poolExhausted => 9
  | .restart => 10
  | .imageBad => 11
  | .imageSaved => 12
  | .imageFailed => 13
  | .referenceLost => 14
  | .malformedRequest => 15

/-- The place of a kind outside the LINE class in the event table. -/
def PartEvent.index (k : PartEvent) : Fin 20 := ⟨k.bit.val + 4, by omega⟩

/-- The line set of a LINE kind. -/
def EventSet.linesOfKind (e : EventSet) : LineEvent → LineSet
  | .lineUp => e.lineUp
  | .lineLost => e.lineLost
  | .trainFail => e.trainFail
  | .shed => e.shed

/-- The state with the line set of a LINE kind replaced. -/
def EventSet.withLines (e : EventSet) (k : LineEvent) (ls : LineSet) : EventSet :=
  match k with
  | .lineUp => { e with lineUp := ls }
  | .lineLost => { e with lineLost := ls }
  | .trainFail => { e with trainFail := ls }
  | .shed => { e with shed := ls }

/-- R181: a line's event joins its kind's set. -/
def EventSet.addLine (e : EventSet) (k : LineEvent) (l : LineNo) : EventSet :=
  e.withLines k (e.linesOfKind k ||| single l)

/-- R181: a kind outside the LINE class becomes pending. -/
def EventSet.addPart (e : EventSet) (k : PartEvent) : EventSet := { e with part := e.part ||| single k.bit }

/-- Whether a kind outside the LINE class is in the state. -/
def EventSet.hasPart (e : EventSet) (k : PartEvent) : Bool := mem e.part k.bit

/-- The kinds that are pending, as section 12.2 lays them out: a LINE kind when its set is not empty. -/
def EventSet.kinds (e : EventSet) : KindSet :=
  (e.part ++ (0#4)) ||| (if e.lineUp = 0 then 0 else 1) ||| (if e.lineLost = 0 then 0 else 2) |||
    (if e.trainFail = 0 then 0 else 4) ||| (if e.shed = 0 then 0 else 8)

/-- R180, R182: the state without the kinds of `part`, and without `lines` in the LINE kinds of `ks`. -/
def EventSet.without (e : EventSet) (ks : KindSet) (lines : LineSet) : EventSet where
  lineUp := if mem ks 0 then e.lineUp &&& ~~~lines else e.lineUp
  lineLost := if mem ks 1 then e.lineLost &&& ~~~lines else e.lineLost
  trainFail := if mem ks 2 then e.trainFail &&& ~~~lines else e.trainFail
  shed := if mem ks 3 then e.shed &&& ~~~lines else e.shed
  part := e.part &&& ~~~(ks.extractLsb' 4 16)

/-- R183: something in the pending state is not in the last-notified state. -/
def EventSet.hasNew (pending last : EventSet) : Bool :=
  pending.lineUp &&& ~~~last.lineUp != 0 || pending.lineLost &&& ~~~last.lineLost != 0 ||
    pending.trainFail &&& ~~~last.trainFail != 0 || pending.shed &&& ~~~last.shed != 0 ||
    pending.part &&& ~~~last.part != 0

/-- R122, R181: some event is pending. -/
def EventSet.any (e : EventSet) : Bool := e.kinds != 0

/-- The class summary (R181, section 12.2): bit 0 LINE, 1 TEST, 2 POWER, 3 UPLINK, 4 SYSTEM. -/
def EventSet.classes (e : EventSet) : Nat :=
  let ks := e.kinds
  (if ks.extractLsb' 0 4 != 0 then 1 else 0) + (if ks.extractLsb' 4 3 != 0 then 2 else 0) +
    (if ks.extractLsb' 7 2 != 0 then 4 else 0) + (if ks.extractLsb' 9 5 != 0 then 8 else 0) +
    (if ks.extractLsb' 14 6 != 0 then 16 else 0)

/-- R180: the enable of a kind. -/
def kindEnabled (s : State) (k : Fin 20) : Bool := mem s.tables.eventEnable k

/-- R183: something is new and there is a station to tell. -/
def notifiable (t : Tables) (m : Mgmt) : Bool := t.mgmt.stationAddress != 0 && m.pending.hasNew m.last

/-- R183, first row: in IDLE, something new with a station address makes the notification DUE. -/
def becomeDue (t : Tables) (m : Mgmt) : Mgmt :=
  if m.notif = .idle && notifiable t m then { m with notif := .due } else m

/-- R181: an event of a LINE kind is raised for a line; it is captured when its kind's enable is yes. -/
def raiseLine (k : LineEvent) (l : LineNo) (s : State) : State :=
  if kindEnabled s k.index then
    { s with mgmt := becomeDue s.tables { s.mgmt with pending := s.mgmt.pending.addLine k l } }
  else s

/-- R181: an event of a kind outside the LINE class is raised. -/
def raisePart (k : PartEvent) (s : State) : State :=
  if kindEnabled s k.index then
    { s with mgmt := becomeDue s.tables { s.mgmt with pending := s.mgmt.pending.addPart k } }
  else s

/-- R181: RESTART is raised, with its detail. -/
def raiseRestart (kind : RestartKind) (s : State) : State :=
  raisePart .restart
    (if kindEnabled s PartEvent.restart.index then { s with mgmt := { s.mgmt with restartDetail := some kind } } else s)

/-- R181: WAKE is raised, with the last wake cause as its detail. -/
def raiseWake (s : State) : State :=
  raisePart .wake
    (if kindEnabled s PartEvent.wake.index then { s with mgmt := { s.mgmt with wakeDetail := s.power.lastCause } } else s)

end Sys2Proof.Machine
end

