-- ==== Sys2Proof/Machine/Ops.lean ====
section
/-! DEFINITION. The named operations over the state: one update per component, the reading and writing of a line, the
account of committed power with admission (R112, R115), the Power Wait Queue (R116), the buffer pool (R49 to R51), and the
messages sent. -/

namespace Sys2Proof.Machine

/-! ## Components -/

def State.setTime (s : State) (x : TimeBase) : State := { s with time := x }
def State.setTables (s : State) (x : Tables) : State := { s with tables := x }
def State.setImage (s : State) (x : ImageStore) : State := { s with image := x }
def State.setLines (s : State) (x : Vector Line 48) : State := { s with lines := x }
def State.setLinks (s : State) (x : Vector Link 6) : State := { s with links := x }
def State.setPool (s : State) (x : Pool) : State := { s with pool := x }
def State.setUplink (s : State) (x : UplinkPort) : State := { s with uplink := x }
def State.setShare (s : State) (x : ShareEngine) : State := { s with share := x }
def State.setPower (s : State) (x : PowerCtl) : State := { s with power := x }
def State.setTest (s : State) (x : TestCtl) : State := { s with test := x }
def State.setResults (s : State) (x : Vector ResultRec 48) : State := { s with results := x }
def State.setMgmt (s : State) (x : Mgmt) : State := { s with mgmt := x }
def State.setNotes (s : State) (x : Notes) : State := { s with notes := x }
def State.setPins (s : State) (x : Pins) : State := { s with pins := x }
def State.setStage (s : State) (x : Stage) : State := { s with stage := x }

/-- A message leaves the part. -/
def State.emit (s : State) (m : OutMsg) : State := { s with out := s.out ++ [m] }

/-- The Line Record of a line, with what is kept beside it. -/
def State.line (s : State) (l : LineNo) : Line := s.lines[l]

/-- A change of one line. -/
def State.modLine (s : State) (l : LineNo) (f : Line → Line) : State := s.setLines (s.lines.set l (f (s.line l)))

/-- The Service entry of a line. -/
def State.service (s : State) (l : LineNo) : ServiceEntry := s.tables.service[l]

/-- The Profile Table entry of a profile. -/
def State.profile (s : State) (p : ProfileNo) : Profile := s.tables.profiles[p]

/-- The lines of `ls` in order, each changed in turn. -/
def forLines (ls : List LineNo) (f : LineNo → State → State) (s : State) : State :=
  ls.foldl (fun s l => f l s) s

/-- The line is ACTIVE or IDLE_LOW: it is in the counted set. -/
def Line.inService (x : Line) : Bool := x.state = .active || x.state = .idleLow

/-- A scan of the Power Wait Queue is due at the end of the step (R118). -/
def noteScan (s : State) : State := s.setNotes { s.notes with scan := true }

/-- A run of the test arbiter is due at the end of the step (R135). -/
def noteArbiter (s : State) : State := s.setNotes { s.notes with arbiter := true }

/-- The part is in DORMANT. -/
def State.dormant (s : State) : Bool := s.power.mode = .dormant

/-! ## The transceiver's mode (section 1.3) -/

/-- A transition into a state of mode `m`: LINE_MODE is sent when it differs from the mode of the state left. -/
def setMode (l : LineNo) (m : LineMode) (s : State) : State :=
  if (s.line l).mode = m then s else (s.modLine l fun x => { x with mode := m }).emit (.lineMode l m)

/-- LINE_MODE is sent whatever the mode last sent. -/
def sendMode (l : LineNo) (m : LineMode) (s : State) : State :=
  (s.modLine l fun x => { x with mode := m }).emit (.lineMode l m)

/-- The mode of RUN with a profile, carrying its rates (R29). -/
def runMode (p : ProfileNo) (s : State) : LineMode := .run p (s.profile p).downKbps (s.profile p).upKbps

/-- The mode of TRICKLE with a profile; its trickle_kbps holds for both directions (R29). -/
def trickleMode (p : ProfileNo) (s : State) : LineMode := .trickle p (s.profile p).trickleKbps

/-- Section 1.3: a PARKED line's mode is OFF, and LISTEN on a class-0 line in DORMANT when class-0 energy is armed (R25). -/
def parkedMode (l : LineNo) (s : State) : LineMode :=
  if s.dormant && (s.service l).shedClass = 0 && s.tables.power.wakeOnEnergy then .listen else .off

/-! ## Committed power (R112, R115) -/

/-- R112: the costs of the 48 lines and the test commitment. -/
def committed (s : State) : Nat := (s.lines.toList.map Line.cost).sum + s.power.testCommit

/-- R109: the budget of a mode. -/
def modeBudget (t : PowerTable) : Mode → Nat
  | .normal => t.budgetNormal
  | .holdup => t.budgetHoldup
  | .reserve => t.budgetReserve
  | .dormant => 0

/-- The budget in force: the mode's (R109), and 0 from a restart until its first poll has ended (R111). -/
def budget (s : State) : Nat := if s.power.awaiting then 0 else modeBudget s.tables.power s.power.mode

/-- R115: whether an admission request is granted. -/
def admits (released new : Nat) (s : State) : Bool :=
  !s.dormant && committed s + new ≤ budget s + released

/-- A line's cost changes; a fall is reported, so a scan is due (R115, R118). -/
def setCost (l : LineNo) (c : Nat) (s : State) : State :=
  let s' := s.modLine l fun x => { x with cost := c }
  if c < (s.line l).cost then noteScan s' else s'

/-- The test commitment is released and reported (R112). -/
def releaseCommit (s : State) : State :=
  let s' := s.setPower { s.power with testCommit := 0 }
  if 0 < s.power.testCommit then noteScan s' else s'

/-! ## The Power Wait Queue (R116, R117) -/

/-- R116: `a` stands ahead of `b`: class ascending, then stamp ascending. -/
def WaitEntry.before (a b : WaitEntry) : Bool := a.cls < b.cls || (a.cls = b.cls && a.stamp < b.stamp)

/-- An entry takes its place in the queue's order. -/
def placeWait (e : WaitEntry) : List WaitEntry → List WaitEntry
  | [] => [e]
  | x :: xs => if e.before x then e :: x :: xs else x :: placeWait e xs

/-- R116: new stamps 0, 1, 2 and onward in order of the stamps held. -/
def renumberWaits (q : List WaitEntry) : List WaitEntry :=
  q.map fun e => { e with stamp := (q.filter fun x => x.stamp < e.stamp).length }

/-- R3: the kind of the entry a line holds. -/
def waitKind (s : State) (l : LineNo) : Option WaitKind := (s.power.wait.find? fun e => e.line = l).map WaitEntry.kind

/-- The line's entry leaves the queue. -/
def removeWait (l : LineNo) (s : State) : State :=
  s.setPower { s.power with wait := s.power.wait.filter fun e => e.line ≠ l }

/-- R116, R117: an entry is created for a line that holds none; in DORMANT none is. -/
def addWait (l : LineNo) (kind : WaitKind) (need : Option Nat) (s : State) : State :=
  if s.dormant || (waitKind s l).isSome then s
  else
    let q := placeWait ⟨l, kind, (s.service l).shedClass, s.power.stampCount, need⟩ s.power.wait
    if s.power.stampCount < Config.stampMax then
      s.setPower { s.power with wait := q, stampCount := s.power.stampCount + 1 }
    else s.setPower { s.power with wait := renumberWaits q, stampCount := q.length }

/-- R117: an entry entered without a request, after which a scan follows. -/
def addWaitScan (l : LineNo) (kind : WaitKind) (s : State) : State := noteScan (addWait l kind none s)

/-- R2, R116: the line's entry moves to its place in a new class, keeping its stamp. -/
def reclassWait (l : LineNo) (cls : Nat) (s : State) : State :=
  match s.power.wait.find? fun e => e.line = l with
  | none => s
  | some e =>
    s.setPower { s.power with wait := placeWait { e with cls := cls } (s.power.wait.filter fun x => x.line ≠ l) }

/-! ## The buffer pool (R49 to R51) -/

/-- Cells leave the pool for a queue. -/
def takeCells (n : Nat) (s : State) : State := s.setPool { s.pool with free := s.pool.free - n }

/-- Cells return to the pool; a return that leaves more than 64 free ends an exhaustion episode (R51). -/
def returnCells (n : Nat) (s : State) : State :=
  if n = 0 then s
  else
    s.setPool { s.pool with
      free := s.pool.free + n
      exhausted := s.pool.exhausted && s.pool.free + n ≤ Config.poolClearAbove }

/-- R51: a frame is dropped for shortage. -/
def shortage (s : State) : State :=
  if s.pool.exhausted then s else raisePart .poolExhausted (s.setPool { s.pool with exhausted := true })

/-- DROPS_UP of a line increases by `n`, saturating (R26). -/
def dropUp (l : LineNo) (n : Nat) (s : State) : State :=
  s.modLine l fun x => { x with counters := { x.counters with dropsUp := min 65535 (x.counters.dropsUp + n) } }

/-- DROPS_DOWN of a line increases by `n`, saturating (R26). -/
def dropDown (l : LineNo) (n : Nat) (s : State) : State :=
  s.modLine l fun x => { x with counters := { x.counters with dropsDown := min 65535 (x.counters.dropsDown + n) } }

/-- R67: a line's two queues are emptied, each frame counted as a drop, and its READY credit becomes 0. A frame in
transmission is removed with the rest, ended on the wire as an errored frame (R57). -/
def flush (l : LineNo) (s : State) : State :=
  let x := s.line l
  let s := match s.uplink.tx, x.upq with
    | some (.line k), f :: _ =>
      if k = l then (s.setUplink { s.uplink with tx := none }).emit (.uplinkErrored f.data) else s
    | _, _ => s
  let s := dropDown l x.dnq.length (dropUp l x.upq.length s)
  let s := s.modLine l fun x => { x with upq := [], dnq := [], ready := 0 }
  returnCells (depth x.upq + depth x.dnq) s

end Sys2Proof.Machine
end

