-- ==== Sys2Proof/Machine/Share.lean ====
section
/-! DEFINITION. The share computation (R86 to R90), the reshare in flight (R79 to R85), and the effective capacity with its
hysteresis (R73 to R76). -/

namespace Sys2Proof.Machine

/-! ## The computation (section 4.6) -/

/-- A line of the snapshot during the water-filling: its weight, its ceiling and its amount so far. -/
structure Filling where
  line : LineNo
  weight : Nat
  ceiling : Nat
  amount : Nat
  deriving DecidableEq, Repr

/-- What the computation gives: an amount for each line of the snapshot, the spare, and the oversubscribed flag. -/
structure ShareResult where
  amounts : List (LineNo × Nat)
  spare : Nat
  oversubscribed : Bool
  deriving DecidableEq, Repr

/-- R86: a guarantee clamped to its ceiling. -/
def ShareInput.clamped (i : ShareInput) : Nat := min i.guarantee i.ceiling

/-- R88: the line can still take more. -/
def Filling.below (f : Filling) : Bool := f.amount < f.ceiling

/-- R88: the sum of the weights of the lines that can still take more. -/
def weightSum (fs : List Filling) : Nat := ((fs.filter Filling.below).map Filling.weight).sum

/-- R88, step 2: the tentative share. -/
def Filling.tentative (f : Filling) (r w : Nat) : Nat := r * f.weight / w

/-- R88, step 3: the line saturates in a round with remainder `r` and weight sum `w`. -/
def Filling.saturates (f : Filling) (r w : Nat) : Bool := f.below && f.ceiling - f.amount ≤ f.tentative r w

/-- R88, step 3: the headroom the saturating lines take. -/
def saturatedSum (fs : List Filling) (r w : Nat) : Nat :=
  ((fs.filter fun f => f.saturates r w).map fun f => f.ceiling - f.amount).sum

/-- R88: the rounds, at most `fuel` of them; answers the amounts and the spare. -/
def waterFill : Nat → List Filling → Nat → List Filling × Nat
  | 0, fs, r => (fs, r)
  | fuel + 1, fs, r =>
    if fs.any Filling.below = false ∨ r = 0 then (fs, r)
    else
      let w := weightSum fs
      if fs.any fun f => f.saturates r w then
        waterFill fuel (fs.map fun f => if f.saturates r w then { f with amount := f.ceiling } else f)
          (r - saturatedSum fs r w)
      else
        (fs.map fun f => if f.below then { f with amount := f.amount + f.tentative r w } else f,
          r - ((fs.filter Filling.below).map fun f => f.tentative r w).sum)

/-- R86 to R88: the share computation on a snapshot. -/
def computeShare (lines : List ShareInput) (c : Nat) : ShareResult :=
  let g := (lines.map ShareInput.clamped).sum
  if c < g then
    let amounts := lines.map fun i => (i.line, i.clamped * c / g)
    ⟨amounts, c - (amounts.map Prod.snd).sum, true⟩
  else
    let filled := waterFill (lines.length + 1) (lines.map fun i => ⟨i.line, i.weight, i.ceiling, i.clamped⟩) (c - g)
    ⟨filled.1.map fun f => (f.line, f.amount), filled.2, false⟩

/-! ## The reshare in flight (section 4.5) -/

/-- R81: what a reshare takes of a line. -/
def shareInput (s : State) (l : LineNo) : ShareInput :=
  ⟨l, (s.service l).weight, (s.service l).guarantee, (s.line l).ceiling⟩

/-- R81: a reshare starts with a snapshot of the counted lines and the basis. -/
def startReshare (s : State) : State :=
  s.setShare { s.share with
    flight := some ⟨s.uplink.basis, (allLines.filter fun l => (s.line l).inService).map (shareInput s), 0⟩
    again := false }

/-- R79, R82: a reshare trigger starts a reshare, or sets again. -/
def triggerReshare (s : State) : State :=
  if s.share.flight.isSome then s.setShare { s.share with again := true } else startReshare s

/-- R80, R83: the share's part of a departure, made when the line has left the counted set: its allocation moves to the spare,
it joins the departed set of a flight that counted it, and the departure is a trigger. -/
def shareDepart (l : LineNo) (s : State) : State :=
  let flight := s.share.flight.map fun f =>
    if f.lines.any fun i => i.line = l then { f with departed := f.departed ||| single l } else f
  let s' := s.setShare { s.share with spare := s.share.spare + (s.line l).allocation, flight := flight }
  triggerReshare (s'.modLine l fun x => { x with allocation := 0 })

/-- R84: what is installed for a line: the computed amount within the line's present ceiling, if it is of the snapshot, has not
departed and is counted now. -/
def installed (f : Flight) (r : ShareResult) (s : State) (l : LineNo) : Nat :=
  match r.amounts.find? fun a => a.1 = l with
  | some a => if mem f.departed l || !(s.line l).inService then 0 else min a.2 (s.line l).ceiling
  | none => 0

/-- R84: a completed reshare is installed whole. -/
def installShare (f : Flight) (s : State) : State :=
  let r := computeShare f.lines f.c
  let alloc := installed f r s
  let held := (r.amounts.map fun a => a.2 - alloc a.1).sum
  let s1 := s.setLines (Vector.ofFn fun l => { s.line l with allocation := alloc l })
  let s2 := s1.setShare { s.share with snapshot := f.c, spare := r.spare + held, oversubscribed := r.oversubscribed,
                                       flight := none, again := false }
  let s3 := if r.oversubscribed && !s.share.oversubscribed then raisePart .oversubscribed s2 else s2
  if s.share.again then startReshare s3 else s3

/-! ## Effective capacity (section 4.2) -/

/-- R73: the candidate effective capacity. -/
def candidate (s : State) : Nat :=
  if !s.uplink.up then 0
  else if s.tables.uplink.pinned ≠ 0 then s.tables.uplink.pinned
  else s.uplink.reported * s.tables.uplink.headroom / 100

/-- R74: whether a candidate is accepted as the new basis. -/
def accepted (cand basis hysteresis : Nat) : Bool :=
  cand ≠ basis && (cand = 0 || basis = 0 || hysteresis * basis ≤ (max cand basis - min cand basis) * 100)

/-- R73 to R75: the effective capacity is re-evaluated. -/
def reevaluate (s : State) : State :=
  let c := candidate s
  let s1 := s.setUplink { s.uplink with effective := c }
  if accepted c s.uplink.basis s.tables.uplink.hysteresis then
    raisePart .capacityChange (triggerReshare (s1.setUplink { s1.uplink with basis := c }))
  else s1

end Sys2Proof.Machine
end

