-- ==== Sys2Proof/Machine/TestQueue.lean ====
section
/-! DEFINITION. The Test Queue: test request records (R129), requests and merging (R130 to R133), removals with a verdict (R134),
and the Results Table records a removal or a test's end writes (R158, R159). -/

namespace Sys2Proof.Machine

/-- R129: ON_DEMAND, AUTO and SCHEDULED as origins. DEDUCED (assumption 15), unsafe. -/
def onDemand : OriginSet := 1#3
def autoOrigin : OriginSet := 2#3
def scheduledOrigin : OriginSet := 4#3

/-- R129: the priority of a record, the highest of its origins: 0 ON_DEMAND, 1 AUTO, 2 SCHEDULED. -/
def TestReq.priority (r : TestReq) : Nat :=
  if r.origins.getLsbD 0 then 0 else if r.origins.getLsbD 1 then 1 else 2

/-- R133: `a` stands ahead of `b`: priority, then stamp. -/
def TestReq.before (a b : TestReq) : Bool :=
  a.priority < b.priority || (a.priority = b.priority && a.stamp < b.stamp)

/-- A record takes its place in the queue's order. -/
def placeTest (e : TestReq) : List TestReq → List TestReq
  | [] => [e]
  | x :: xs => if e.before x then e :: x :: xs else x :: placeTest e xs

/-- R129: new stamps 0, 1, 2 and onward in order of the stamps held. -/
def renumberTests (q : List TestReq) : List TestReq :=
  q.map fun e => { e with stamp := (q.filter fun x => x.stamp < e.stamp).length }

/-- The record of a line, if the queue holds one. -/
def queuedTest (s : State) (l : LineNo) : Option TestReq := s.test.queue.find? fun e => e.line = l

/-- The queue without the record of a line. -/
def withoutTest (l : LineNo) (q : List TestReq) : List TestReq := q.filter fun e => e.line ≠ l

/-- R129: a record is given a stamp and joins the queue `rest`. -/
def joinQueue (e : TestReq) (rest : List TestReq) (s : State) : State :=
  let q := placeTest { e with stamp := s.test.stampCount } rest
  if s.test.stampCount < Config.stampMax then
    s.setTest { s.test with queue := q, stampCount := s.test.stampCount + 1 }
  else s.setTest { s.test with queue := renumberTests q, stampCount := q.length }

/-- R132: a request merged into the line's record; the tag is taken from a request on demand only. -/
def mergeTest (old request : TestReq) : TestReq :=
  { old with
    origins := old.origins ||| request.origins
    steps := old.steps ||| request.steps
    force := old.force || request.force
    tag := if request.origins.getLsbD 0 then request.tag else old.tag }

/-- What became of a test request. -/
inductive TestAnswer where
  | wrongState | merged | full | joined
  deriving DecidableEq, Repr

/-- R130 rows 2 to 5: a request is refused for the line's state, merged, refused for a full queue, or joins the queue. A joining,
and a merge that moves a record, are queue changes (R133). -/
def judgeTest (r : TestReq) (s : State) : State × TestAnswer :=
  let st := (s.line r.line).state
  if st = .down || st = .blocked || st = .testing then (s, .wrongState)
  else match queuedTest s r.line with
    | some old =>
      let q := placeTest (mergeTest old r) (withoutTest r.line s.test.queue)
      let s' := s.setTest { s.test with queue := q }
      (if q.map TestReq.line = s.test.queue.map TestReq.line then s' else noteArbiter s', .merged)
    | none =>
      if Config.testQueueMax ≤ s.test.queue.length then (s, .full)
      else (noteArbiter (joinQueue r s.test.queue s), .joined)

/-- R131: a request of the part's own, AUTO or SCHEDULED; a full queue drops it with TEST_DROPPED, and in DORMANT it is dropped
with no event. -/
def requestOwn (l : LineNo) (origin : OriginSet) (steps : StepSet) (s : State) : State :=
  if s.dormant then s
  else
    let (s', answer) := judgeTest { line := l, origins := origin, steps := steps } s
    if answer = .full then raisePart .testDropped s' else s'

/-- R159: a record replaces the line's previous record whole. -/
def writeResult (l : LineNo) (r : ResultRec) (s : State) : State := s.setResults (s.results.set l r)

/-- R134: the record written at a removal. -/
def removalRecord (e : TestReq) (v : Verdict) (now : Nat) : ResultRec :=
  { verdict := some v, endTime := now, origins := e.origins, tag := e.tag, steps := e.steps }

/-- R134: a line's record leaves the queue with a verdict and an event. The caller says whether the arbiter is told. -/
def removeTest (l : LineNo) (v : Verdict) (event : PartEvent) (s : State) : State :=
  match queuedTest s l with
  | none => s
  | some e =>
    raisePart event (writeResult l (removalRecord e v s.time.now)
      (s.setTest { s.test with queue := withoutTest l s.test.queue }))

/-- R134: a queued record is cancelled, which is a queue change. -/
def cancelQueued (l : LineNo) (s : State) : State :=
  if (queuedTest s l).isSome then noteArbiter (removeTest l .cancelled .testDone s) else s

/-! ## The outcome of a test (chapter 8) -/

/-- The outcome of a step. -/
def Outcomes.get (o : Outcomes) : TestStep → StepOutcome
  | .foreignV => o.foreignV
  | .loopR => o.loopR
  | .cap => o.cap
  | .insul => o.insul

/-- The outcomes with one step's replaced. -/
def Outcomes.put (o : Outcomes) (t : TestStep) (v : StepOutcome) : Outcomes :=
  match t with
  | .foreignV => { o with foreignV := v }
  | .loopR => { o with loopR := v }
  | .cap => { o with cap := v }
  | .insul => { o with insul := v }

/-- Every step's outcome changed alike. -/
def Outcomes.each (o : Outcomes) (f : StepOutcome → StepOutcome) : Outcomes :=
  ⟨f o.foreignV, f o.loopR, f o.cap, f o.insul⟩

/-- Some step has the outcome. -/
def Outcomes.has (o : Outcomes) (v : StepOutcome) : Bool :=
  o.foreignV = v || o.loopR = v || o.cap = v || o.insul = v

/-- R138, R141: the step list at a start: FOREIGN_V, and each of the others that the record asks for, all PENDING. -/
def stepList (steps : StepSet) : Outcomes where
  foreignV := .pending
  loopR := if steps.getLsbD 1 then .pending else .notRun
  cap := if steps.getLsbD 2 then .pending else .notRun
  insul := if steps.getLsbD 3 then .pending else .notRun

/-- R141: the next PENDING step, in the order of the list. -/
def Outcomes.nextPending (o : Outcomes) : Option TestStep :=
  [TestStep.foreignV, .loopR, .cap, .insul].find? fun t => o.get t = .pending

/-- R157: the verdict of a test at its end. -/
def verdictOf (t : CurrentTest) : Verdict :=
  match t.verdict with
  | some v => v
  | none =>
    let opened : Bool := match t.judgement, t.values.loop with
      | some j, some (_, _, ohms, _) => t.outcomes.loopR = .done && j.openOhms ≤ ohms
      | _, _ => false
    let leaky : Bool := match t.judgement, t.values.insulation with
      | some j, some (_, _, kohm) => t.outcomes.insul = .done && kohm < j.insulMinKohm
      | _, _ => false
    if opened then .openLoop
    else if leaky then .lowInsulation
    else if t.outcomes.has .timedOut then .incomplete
    else .pass

/-- R158, R159: the record of a test at its end. -/
def testRecord (t : CurrentTest) (now : Nat) : ResultRec :=
  { verdict := some (verdictOf t), endTime := now, origins := t.req.origins, tag := t.req.tag, steps := t.req.steps,
    outcomes := t.outcomes, values := t.values }

/-- Step 2 of R144 and of R145: the record is written, TEST_DONE is raised, and TEST_HAZARD for a hazard. -/
def concludeTest (t : CurrentTest) (s : State) : State :=
  let s1 := raisePart .testDone (writeResult t.req.line (testRecord t s.time.now) s)
  if verdictOf t = .hazard then raisePart .testHazard s1 else s1

end Sys2Proof.Machine
end

