-- ==== Sys2Proof/Machine/Lines.lean ====
section
/-! DEFINITION. The transitions of a line (chapter 1): admissions, the start of an exchange (R33, R35), departure from service,
retrains, shedding, and the hand-over to the Test Controller. -/

namespace Sys2Proof.Machine

/-! ## LISTENING and TRAINING -/

/-- R7: a line enters LISTENING. -/
def enterListening (l : LineNo) (s : State) : State :=
  let s1 := setCost l s.tables.power.listenMw s
  setMode l .listen (s1.modLine l fun x => { x with state := .listening, backoff := 0 })

/-- R35: a profile belongs to the set a line would advertise. -/
def advertises (s : State) (l : LineNo) (p : ProfileNo) : Bool :=
  (s.profile p).valid && mem (s.service l).allowed p &&
    (match (s.line l).loopLength with | none => true | some len => len ≤ (s.profile p).reach)

/-- R35: the advertised set of a line. -/
def advertisedSet (s : State) (l : LineNo) : ProfileSet := setOf 16 (advertises s l)

/-- R33, R35: the exchange record at its start, with the part's BASE page. -/
def newExchange (s : State) (l : LineNo) : Exchange :=
  let adv := advertisedSet s l
  let id := (s.service l).lineId
  let save := (List.finRange 16).any fun p => mem adv p && (s.profile p).idleAllowed
  { lastPage := basePage adv save (id ≠ 0), limit := s.tables.pageMs, partMore := id ≠ 0, advertised := adv, lineId := id }

/-- R8, R33, R35: a line enters TRAINING: train_mW is committed, the modem fields are emptied, and the exchange begins. -/
def enterTraining (l : LineNo) (s : State) : State :=
  let s1 := setCost l s.tables.power.trainMw s
  let ex := newExchange s1 l
  let s2 := s1.modLine l fun x =>
    { x with state := .training, backoff := 0, ability := 0, powerSave := false, attenuation := none, identity := none,
             exchange := some ex }
  (setMode l .train s2).emit (.sendPage l ex.lastPage)

/-- R8, R20: a TRAIN admission is requested for a LISTENING line that holds no entry. -/
def requestTrain (l : LineNo) (s : State) : State :=
  if admits (s.line l).cost s.tables.power.trainMw s then enterTraining l s else addWait l .train none s

/-! ## PARKED -/

/-- A line that is out of service and holds no cost enters PARKED. -/
def enterParked (l : LineNo) (s : State) : State :=
  setMode l (parkedMode l s) (s.modLine l fun x => { x with state := .parked, backoff := 0 })

/-- R12: a line that gives up its cost goes to LISTENING, and to PARKED with a LISTEN entry when listen_mW is refused.
DEDUCED (assumption 32), safe. -/
def returnToListening (l : LineNo) (s : State) : State :=
  let c := (s.line l).cost
  if s.tables.power.listenMw ≤ c || admits c s.tables.power.listenMw s then enterListening l s
  else addWait l .listen none (enterParked l (setCost l 0 s))

/-- R20, R21, R48: a line that has come back for a retrain asks for TRAINING at once, if it is LISTENING. -/
def retrainRequest (l : LineNo) (s : State) : State :=
  if (s.line l).state = .listening then requestTrain l s else s

/-! ## Leaving service -/

/-- R11: departure from service. The line is left out of every state of service, as PARKED at its running cost; the rule that
caused the departure then places it and releases or replaces the cost. -/
def depart (l : LineNo) (s : State) : State :=
  let s1 := (flush l s).modLine l fun x =>
    { x with state := .parked, credit := 0, running := none, ceiling := 0, idle := .stopped }
  removeWait l (shareDepart l s1)

/-- R47: the exchange of a line is discarded. -/
def dropExchange (l : LineNo) (s : State) : State := s.modLine l fun x => { x with exchange := none }

/-- R28: a retrain is counted toward the line's window, and may make an AUTO request with LOOP_R, CAP and INSUL. -/
def countRetrain (l : LineNo) (s : State) : State :=
  let sv := s.service l
  let x := s.line l
  let restart := match x.windowStart with
    | none => true
    | some t => decide (t + 1000 * sv.autoWindowS ≤ s.time.now)
  let count := if restart then 1 else satInc 255 x.retrains
  let start := if restart then some s.time.now else x.windowStart
  if sv.autoRetrains ≠ 0 ∧ sv.autoRetrains ≤ count then
    requestOwn l autoOrigin 14#4 (s.modLine l fun x => { x with windowStart := start, retrains := 0 })
  else s.modLine l fun x => { x with windowStart := start, retrains := count }

/-- R13: an LOS episode of a line in service. -/
def losEpisode (l : LineNo) (s : State) : State :=
  let s1 := returnToListening l (depart l s)
  let s2 := s1.modLine l fun x => { x with counters := { x.counters with los := satInc 65535 x.counters.los } }
  countRetrain l (raiseLine .lineLost l s2)

/-- R9: the backoff set at a number of consecutive failures. -/
def backoffFor (failures : Nat) : Nat := min Config.backoffMax (1000 * 2 ^ (failures - 1))

/-- R9: an exchange ends in failure. A line that comes to PARKED gets no backoff (R12). -/
def failExchange (l : LineNo) (s : State) : State :=
  let s1 := returnToListening l (dropExchange l s)
  let s2 := s1.modLine l fun x =>
    let n := satInc 255 x.failures
    { x with failures := n, backoff := if x.state = .listening then backoffFor n else 0 }
  raiseLine .trainFail l s2

/-- R13, R15, R46: a LOS, by a report or by the loss of the link, handled by the line's state. -/
def lineLos (l : LineNo) (s : State) : State :=
  if (s.line l).inService then losEpisode l s
  else if (s.line l).state = .training then failExchange l s
  else s

/-- R20, R21: the retrain of a line in service. -/
def retrainInService (l : LineNo) (s : State) : State :=
  let s1 := retrainRequest l (returnToListening l (depart l s))
  let s2 := s1.modLine l fun x => { x with counters := { x.counters with retrains := satInc 65535 x.counters.retrains } }
  countRetrain l s2

/-- R20, R21, R48: the exchange of a TRAINING line ends with no TRAIN_FAIL and the line asks for a new one. -/
def retrainTraining (l : LineNo) (s : State) : State := retrainRequest l (returnToListening l (dropExchange l s))

/-! ## IDLE_LOW and promotion -/

/-- R18, R24: IDLE_LOW is open to the line: its running profile has idle_allowed and the modem has power-save. -/
def mayIdle (s : State) (l : LineNo) : Bool :=
  match (s.line l).running with
  | some p => (s.profile p).idleAllowed && (s.line l).powerSave
  | none => false

/-- R18: an ACTIVE line moves to IDLE_LOW on its running profile. -/
def enterIdleLow (l : LineNo) (s : State) : State :=
  match (s.line l).running with
  | none => s
  | some p =>
    let s1 := setCost l (s.profile p).idleMw s
    let s2 := s1.modLine l fun x => { x with state := .idleLow, ceiling := (s.profile p).trickleKbps, idle := .stopped }
    triggerReshare (setMode l (trickleMode p s) s2)

/-- R19: an IDLE_LOW line moves to ACTIVE on its running profile. -/
def promote (l : LineNo) (s : State) : State :=
  match (s.line l).running with
  | none => s
  | some p =>
    let s1 := setCost l (s.profile p).activeMw s
    let s2 := s1.modLine l fun x => { x with state := .active, ceiling := (s.profile p).upKbps, idle := .running 0 }
    triggerReshare (setMode l (runMode p s) s2)

/-- R19: after a frame has been queued for a line. -/
def promoteIfDeep (l : LineNo) (s : State) : State :=
  let x := s.line l
  match x.running with
  | some p =>
    if x.state = .idleLow && (waitKind s l).isNone &&
        (s.tables.power.promoteCells < depth x.upq || s.tables.power.promoteCells < depth x.dnq) then
      if admits x.cost (s.profile p).activeMw s then promote l s else addWait l .promote none s
    else s
  | none => s

/-- R10: a line enters service from TRAINING with the profile and state resolution chose; its cost is the reserved cost. -/
def enterService (l : LineNo) (p : ProfileNo) (k : Service) (s : State) : State :=
  let pr := s.profile p
  let s1 := s.modLine l fun x =>
    { x with exchange := none, running := some p, failures := 0, backoff := 0
             state := (match k with | .active => .active | .idleLow => .idleLow)
             ceiling := (match k with | .active => pr.upKbps | .idleLow => pr.trickleKbps)
             idle := (match k with | .active => .running 0 | .idleLow => .stopped) }
  let s2 := setMode l (match k with | .active => runMode p s | .idleLow => trickleMode p s) s1
  let s3 := raiseLine .lineUp l (triggerReshare s2)
  match k with
  | .active => s3
  | .idleLow => addWait l .promote none s3

/-! ## Shedding, the take and the return -/

/-- The line is in one of the states that commit power of their own. -/
def Line.powered (x : Line) : Bool := x.state = .listening || x.state = .training || x.inService

/-- R23, R24, R25: a powered line stops what it does: its exchange ends, it departs from service, its entry is removed. Its cost
stays until the caller releases it. -/
def withdraw (l : LineNo) (s : State) : State :=
  let s1 := if (s.line l).inService then depart l s else dropExchange l s
  removeWait l (s1.modLine l fun x => { x with backoff := 0 })

/-- R24: a shed line comes to PARKED with a SHED event; its LISTEN entry is made when the shed ends (R121). -/
def shedLine (l : LineNo) (s : State) : State :=
  if (s.line l).powered then raiseLine .shed l (enterParked l (setCost l 0 (withdraw l s))) else s

/-- R24: a demotion, refused where IDLE_LOW is not open to the line; its PROMOTE entry is made when the shed ends. -/
def demote (l : LineNo) (s : State) : State :=
  if (s.line l).state = .active && mayIdle s l then enterIdleLow l s else s

/-- R23: the Test Controller takes a line; its cost is replaced by the caller in one admission. The Test Controller's
RELEASE_FOR_TEST sets the transceiver's mode. -/
def takeLine (l : LineNo) (s : State) : State :=
  let s1 := withdraw l s
  s1.modLine l fun x => { x with state := .testing, mode := .released }

/-- R23: a line is returned PARKED, with a LISTEN entry outside DORMANT. -/
def returnParked (l : LineNo) (s : State) : State := addWaitScan l .listen (enterParked l s)

/-- R23, R145: a line is returned BLOCKED. -/
def returnBlocked (l : LineNo) (s : State) : State := setMode l .off (s.modLine l fun x => { x with state := .blocked })

/-- R6, R23: a line becomes DOWN. -/
def enterDown (l : LineNo) (s : State) : State :=
  setMode l .off (s.modLine l fun x => { x with state := .down, backoff := 0 })

end Sys2Proof.Machine
end

