-- ==== Sys2Proof/Machine/FramePath.lean ====
section
/-! DEFINITION. The Frame Path (chapter 3): frames from a line, frames from the terminal, delivery on READY credit, and the transmit
arbiter with the endings of a transmission that concern the line queues (chapter 5). -/

namespace Sys2Proof.Machine

/-! ## Upstream (section 3.3) -/

/-- R56, R61: what both directions do when a frame has been accepted: the time of last frame becomes now, and the idle timer of an
ACTIVE line restarts (R17). -/
def noteFrame (now : Nat) (x : Line) : Line :=
  { x with lastFrame := some now, idle := if x.state = .active then .running 0 else x.idle }

/-- R56: a frame is accepted into the line's upstream queue with the line's tag. -/
def acceptUp (l : LineNo) (frame : Bytes) (s : State) : State :=
  let tag := (s.service l).upTag
  let f : Frame := ⟨insertTag tag frame, some tag⟩
  let s1 := (takeCells f.cells s).modLine l fun x =>
    noteFrame s.time.now { x with
      upq := x.upq ++ [f]
      counters := { x.counters with framesUp := satInc 4294967295 x.counters.framesUp } }
  promoteIfDeep l s1

/-- R53 to R55: a FRAME_UP of a line is judged. -/
def judgeUp (l : LineNo) (frame : Bytes) (errored : Bool) (s : State) : State :=
  let x := s.line l
  let need := cellsFor (frame.length + 4)
  if errored then s.modLine l fun x => { x with counters := { x.counters with crcErr := satInc 65535 x.counters.crcErr } }
  else if x.state = .listening || x.state = .training || x.state = .testing then dropUp l 1 s
  else if !x.inService then s
  else if frame.length < 64 || 1532 < frame.length then dropUp l 1 s
  else if (s.service l).upTag = 0 then dropUp l 1 s
  else if (s.service l).upqCells < depth x.upq + need then dropUp l 1 s
  else if s.pool.free < need then shortage (dropUp l 1 s)
  else acceptUp l frame s

/-! ## Downstream (section 3.4) -/

/-- R62: frames at the head of a line's downstream queue go to the transceiver, one for each READY credit. -/
def deliver (l : LineNo) : Nat → State → State
  | 0, s => s
  | n + 1, s =>
    match (s.line l).dnq with
    | [] => s
    | f :: fs =>
      let s1 := (s.modLine l fun x => { x with dnq := fs, ready := x.ready - 1 }).emit (.frameDown l f.data)
      deliver l n (returnCells f.cells s1)

/-- R62: delivery as far as the READY credit goes. -/
def deliverReady (l : LineNo) (s : State) : State := deliver l (s.line l).ready s

/-- R61: a frame is accepted into the line's downstream queue, and delivered as R62 allows. -/
def acceptDown (l : LineNo) (frame : Bytes) (s : State) : State :=
  let f : Frame := ⟨removeTag frame, none⟩
  let s1 := (takeCells f.cells s).modLine l fun x =>
    noteFrame s.time.now { x with
      dnq := x.dnq ++ [f]
      counters := { x.counters with framesDown := satInc 4294967295 x.counters.framesDown } }
  deliverReady l (promoteIfDeep l s1)

/-- R60: the line that a valid Forwarding entry names for a tag. -/
def lookupTag (s : State) (tag : Nat) : Option LineNo :=
  match s.tables.forwarding.toList.find? fun e => e.valid && e.tag = tag with
  | some e => lineOf e.line
  | none => none

/-- R60: a subscriber frame is checked, looked up and queued or dropped. -/
def judgeDown (frame : Bytes) (s : State) : State :=
  let need := cellsFor (frame.length - 4)
  if frame.length < 68 then s.setPool { s.pool with undersize := satInc 4294967295 s.pool.undersize }
  else match (frameTag frame).bind (lookupTag s) with
    | none => s.setPool { s.pool with unknownTag := satInc 4294967295 s.pool.unknownTag }
    | some l =>
      let x := s.line l
      if !x.inService then dropDown l 1 s
      else if (s.service l).dnqCells < depth x.dnq + need then dropDown l 1 s
      else if s.pool.free < need then shortage (dropDown l 1 s)
      else acceptDown l frame s

/-- R62: READY raises the credit of a line in service, and frames are delivered. -/
def readyCredit (l : LineNo) (count : Nat) (s : State) : State :=
  if (s.line l).inService then
    deliverReady l (s.modLine l fun x => { x with ready := min Config.readyMax (x.ready + count) })
  else s

/-! ## The transmit arbiter (section 5.5) -/

/-- R94: the line's head frame is covered by its credit. -/
def eligible (s : State) (l : LineNo) : Bool :=
  match (s.line l).upq with
  | [] => false
  | f :: _ => f.bits ≤ (s.line l).credit

/-- R100: the line may send in the borrow class. -/
def mayBorrow (s : State) (l : LineNo) : Bool := (s.service l).borrow && !(s.line l).upq.isEmpty

/-- R100: the order of a class's search: from position + 1 to 48, then from 1 to the position. -/
def searchOrder (pos : Nat) : List LineNo :=
  allLines.filter (fun l => pos < lineNumber l) ++ allLines.filter (fun l => lineNumber l ≤ pos)

/-- R95: the credit is debited by the head frame's bits. -/
def debit (l : LineNo) (s : State) : State :=
  s.modLine l fun x => match x.upq with
    | [] => x
    | f :: _ => { x with credit := x.credit - f.bits }

/-- R99, R100: the arbiter makes a choice when the link is UP, no hold runs, the transmitter is free and a class has a frame. -/
def chooseFrame (s : State) : State :=
  if s.uplink.up && s.uplink.hold = 0 && s.uplink.tx.isNone then
    match s.uplink.control with
    | _ :: _ => s.setUplink { s.uplink with tx := some .control }
    | [] =>
      match (searchOrder s.uplink.eligiblePos).find? (eligible s) with
      | some l => debit l (s.setUplink { s.uplink with tx := some (.line l), eligiblePos := lineNumber l })
      | none =>
        match (searchOrder s.uplink.borrowPos).find? (mayBorrow s) with
        | some l => s.setUplink { s.uplink with tx := some (.line l), borrowPos := lineNumber l }
        | none => s
  else s

/-- R57: the head frame of a line's upstream queue leaves it and its cells return. -/
def popUp (l : LineNo) (s : State) : State :=
  match (s.line l).upq with
  | [] => s
  | f :: fs => returnCells f.cells (s.modLine l fun x => { x with upq := fs })

end Sys2Proof.Machine
end

