-- ==== Sys2Proof/Machine/Exchange.lean ====
section
/-! DEFINITION. The exchange (sections 2.3 to 2.6): the beginning of a step, the pages taken, resolution, NO_POWER, SELECT, and
the page timer. -/

namespace Sys2Proof.Machine

/-- R34: a step after step 0 begins with the page the part sends. -/
def beginStep (l : LineNo) (phase : Phase) (prev : PageKind) (page : Nat → RawPage) (x : Exchange) (s : State) : State :=
  let step := x.step + 1
  let x' := { x with phase := phase, step := step, lastPage := page (step % 2), prevKind := some prev, resends := 0,
                     timer := 0, limit := s.tables.pageMs, partMore := false }
  (s.modLine l fun y => { y with exchange := some x' }).emit (.sendPage l x'.lastPage)

/-- R39: an extension step: LINE_ID at step 1 where line_id is not 0, and a filler otherwise. -/
def beginExtension (l : LineNo) (prev : PageKind) (x : Exchange) (s : State) : State :=
  beginStep l .extension prev
    (fun t => if x.step = 0 ∧ x.lineId ≠ 0 then lineIdPage t x.lineId else fillerPage t) x s

/-- R41: a profile belongs to the common set. -/
def isCommon (s : State) (l : LineNo) (x : Exchange) (p : ProfileNo) : Bool :=
  mem x.advertised p && mem (s.line l).ability p &&
    (match (s.line l).attenuation with | none => true | some a => a ≤ (s.profile p).maxAtten)

/-- R41: the candidate list, highest rank first. -/
def candidates (s : State) (l : LineNo) (x : Exchange) : List ProfileNo :=
  (List.finRange 16).reverse.filter (isCommon s l x)

/-- R42: a cost is no more than what is available, budget − committed + own. -/
def affordable (s : State) (l : LineNo) (cost : Nat) : Bool := cost + committed s ≤ budget s + (s.line l).cost

/-- R42: the profile and state chosen from a candidate list, and its cost. -/
def choose (s : State) (l : LineNo) (cs : List ProfileNo) : Option (ProfileNo × Service × Nat) :=
  match cs.find? fun p => affordable s l (s.profile p).activeMw with
  | some p => some (p, .active, (s.profile p).activeMw)
  | none =>
    match cs with
    | [] => none
    | best :: _ =>
      if (s.profile best).idleAllowed && (s.line l).powerSave && affordable s l (s.profile best).idleMw then
        some (best, .idleLow, (s.profile best).idleMw)
      else none

/-- R43: the need of the TRAIN entry: the least active_mW of the candidates, with the best candidate's idle_mW where step 2 failed
on that alone. -/
def trainNeed (s : State) (l : LineNo) (best : ProfileNo) (rest : List ProfileNo) : Nat :=
  let least := rest.foldl (fun m p => min m (s.profile p).activeMw) (s.profile best).activeMw
  if (s.profile best).idleAllowed && (s.line l).powerSave then min least (s.profile best).idleMw else least

/-- R43: NO_POWER. The scan is that of the fall in the line's cost (R117); where listen_mW is not below the cost given up, nothing falls and
no scan is made. DESIGN CHOICE (assumption 47), unsafe. -/
def noPower (l : LineNo) (need : Nat) (s : State) : State :=
  let s1 := returnToListening l (dropExchange l s)
  if (s1.line l).state = .listening then addWait l .train (some need) s1 else s1

/-- R41 to R44: resolution, with the SELECT phase where a profile is chosen. `prev` is the kind of the page just taken. -/
def resolve (l : LineNo) (prev : PageKind) (x : Exchange) (s : State) : State :=
  match candidates s l x with
  | [] => failExchange l s
  | best :: rest =>
    match choose s l (best :: rest) with
    | some (p, k, cost) =>
      beginStep l .select prev (fun t => selectPage t p) { x with chosen := some (p, k) } (setCost l cost s)
    | none => noPower l (trainNeed s l best rest) s

/-- R38: the modem's BASE page is taken. -/
def takeBase (l : LineNo) (page : RawPage) (x : Exchange) (s : State) : State :=
  let s1 := s.modLine l fun y => { y with ability := pageAbility page, powerSave := pagePowerSave page }
  let x1 := { x with modemMore := pageMore page }
  if x1.partMore || x1.modemMore then beginExtension l .base x1 s1 else resolve l .base x1 s1

/-- R39: the code of the modem's EXT page is applied to the Line Record. -/
def applyExtension (l : LineNo) (page : RawPage) (s : State) : State :=
  match pageCode page with
  | 1 => s.modLine l fun y => { y with attenuation := some (pageValue page % 65536) }
  | 2 => s.modLine l fun y => { y with identity := some (pageValue page) }
  | _ => s

/-- R39, R40: the modem's EXT page is taken. -/
def takeExtension (l : LineNo) (page : RawPage) (x : Exchange) (s : State) : State :=
  let s1 := applyExtension l page s
  let x1 := { x with extSteps := x.extSteps + 1, modemMore := pageMore page }
  if x1.modemMore then
    if Config.extensionMax ≤ x1.extSteps then failExchange l s1 else beginExtension l .ext x1 s1
  else resolve l .ext x1 s1

/-- R44: the modem's SELECT page is taken. -/
def takeSelect (l : LineNo) (page : RawPage) (x : Exchange) (s : State) : State :=
  match x.chosen with
  | some (p, k) => if pageProfile page = p.val then enterService l p k s else failExchange l s
  | none => failExchange l s

/-- R34: the kind of page the step takes. -/
def Phase.takes : Phase → PageKind
  | .base => .base
  | .extension => .ext
  | .select => .select

/-- R36: a page delivered to an exchange is taken, answered as a repeat, or ignored. -/
def judgePage (l : LineNo) (page : RawPage) (x : Exchange) (s : State) : State :=
  match pageKind page with
  | none => s
  | some kind =>
    if pageToggle page = x.step % 2 then
      if kind = x.phase.takes then
        match x.phase with
        | .base => takeBase l page x s
        | .extension => takeExtension l page x s
        | .select => takeSelect l page x s
      else s
    else if x.prevKind = some kind then s.emit (.sendPage l x.lastPage)
    else s

/-- R32: a page is delivered to the exchange of a TRAINING line, and discarded in any other state. -/
def deliverPage (l : LineNo) (page : RawPage) (s : State) : State :=
  match (s.line l).exchange with
  | some x => if (s.line l).state = .training then judgePage l page x s else s
  | none => s

/-- R37: the page timer of a line's exchange has reached the page_ms it started with. -/
def pageDue (x : Exchange) : Bool := x.limit ≤ x.timer

/-- R37: a page timer's expiry is taken. -/
def expirePage (l : LineNo) (s : State) : State :=
  match (s.line l).exchange with
  | some x =>
    if (s.line l).state = .training && pageDue x then
      if x.resends < Config.resendMax then
        (s.modLine l fun y =>
          { y with exchange := some { x with resends := x.resends + 1, timer := 0, limit := s.tables.pageMs } }).emit
          (.sendPage l x.lastPage)
      else failExchange l s
    else s
  | none => s

end Sys2Proof.Machine
end

