-- ==== Sys2Proof/Machine/Scan.lean ====
section
/-! DEFINITION. The scan of the Power Wait Queue (R118), the test arbiter with the start of a test (R135 to R138), and the end of a
step: its scan and its run of the arbiter. -/

namespace Sys2Proof.Machine

/-! ## The scan (R118) -/

/-- R116: an entry's kind matches its line's state. DESIGN CHOICE (assumption 24), safe. -/
def WaitEntry.matchesLine (e : WaitEntry) (x : Line) : Bool :=
  match e.kind with
  | .listen => x.state = .parked
  | .train => x.state = .listening
  | .promote => x.state = .idleLow && x.running.isSome

/-- R118: what an entry's admission commits. -/
def waitCost (e : WaitEntry) (s : State) : Nat :=
  match e.kind with
  | .listen => s.tables.power.listenMw
  | .train => s.tables.power.trainMw
  | .promote => match (s.line e.line).running with
    | some p => (s.profile p).activeMw
    | none => 0

/-- R118: an entry fits; a TRAIN entry with a need is judged by the larger of its cost and the need. -/
def fits (e : WaitEntry) (s : State) : Bool :=
  e.matchesLine (s.line e.line) &&
    committed s + max (waitCost e s) (e.need.getD 0) ≤ budget s + (s.line e.line).cost

/-- R118: an entry's transition is made. -/
def grantEntry (e : WaitEntry) (s : State) : State :=
  let s1 := removeWait e.line s
  match e.kind with
  | .listen => enterListening e.line s1
  | .train => enterTraining e.line s1
  | .promote => promote e.line s1

/-- R118: one pass over the entries, which answers whether an admission lowered the account. -/
def scanPass : List WaitEntry → State × Bool → State × Bool
  | [], r => r
  | e :: es, (s, lowered) =>
    if fits e s then
      let s1 := grantEntry e s
      scanPass es (s1, lowered || committed s1 < committed s)
    else scanPass es (s, lowered)

/-- R118: passes until one lowers nothing; each pass that goes on has admitted an entry, so `fuel` entries are enough. -/
def scanLoop : Nat → State → State
  | 0, s => s
  | fuel + 1, s =>
    let r := scanPass s.power.wait (s, false)
    if r.2 then scanLoop fuel r.1 else r.1

/-- R111, R118: a scan is made outside DORMANT, and not before a restart's first poll has ended. -/
def mayScan (s : State) : Bool := !s.dormant && !s.power.awaiting

/-- R118: a scan of the Power Wait Queue. -/
def scan (s : State) : State := if mayScan s then scanLoop (s.power.wait.length + 1) s else s

/-! ## The test arbiter (section 7.2) -/

/-- R136: an entry is skipped for the window. -/
def skipWindow (e : TestReq) (s : State) : Bool :=
  !e.origins.getLsbD 0 && (!s.time.windowOpen || s.power.mode = .reserve)

/-- R136: an entry is skipped for power. -/
def skipPower (e : TestReq) (s : State) : Bool :=
  budget s + (s.line e.line).cost < committed s + s.tables.test.testMw

/-- R137: the quiet check holds an entry back: it is not forced, and its line in service has carried a frame within quiet_ms. -/
def tooBusy (e : TestReq) (s : State) : Bool :=
  !e.force && (s.line e.line).inService &&
    (match (s.line e.line).lastFrame with
      | some t => decide (s.time.now - t < s.tables.test.quietMs)
      | none => false)

/-- R137: an entry is deferred, or removed at max_defers; either sets the quiet timer, and an expiry not yet taken is withdrawn.
DEDUCED (assumptions 27 and 43), safe. -/
def deferTest (e : TestReq) (s : State) : State :=
  let s1 := s.setTest { s.test with quiet := s.tables.test.quietMs, quietDue := false }
  let e1 := { e with defers := e.defers + 1 }
  if s.tables.test.maxDefers ≤ e1.defers then removeTest e.line .deferredOut .testDropped s1
  else joinQueue e1 (withoutTest e.line s1.test.queue) s1

/-- R138: a test is started. -/
def startTest (e : TestReq) (s : State) : State :=
  let t : CurrentTest := { req := e, outcomes := stepList e.steps, startTime := s.time.now }
  -- 1: the entry leaves the queue and the current test record is formed
  let s1 := s.setTest { s.test with queue := withoutTest e.line s.test.queue, current := some t }
  -- 2: the line is taken
  let s2 := takeLine e.line s1
  -- 3: one admission releases the line's cost and commits test_mW
  let given := (s2.line e.line).cost
  let mw := s.tables.test.testMw
  let s3 := (s2.modLine e.line fun x => { x with cost := 0 }).setPower { s2.power with testCommit := mw }
  let s4 := if mw < given then scan s3 else s3
  -- 4: the bus enters PREPARE
  let s5 := s4.setTest { s4.test with
    bus := .prepare
    current := some { t with commitHeld := true, stageTimer := s.tables.test.prepareMs } }
  (s5.emit (.releaseForTest e.line)).emit (.connect e.line)

/-- R136, R137: a run over the lines whose entries were held at its start. DEDUCED (assumption 11), safe. -/
def arbiterPass : List LineNo → State → State
  | [], s => s
  | l :: ls, s =>
    match queuedTest s l with
    | none => arbiterPass ls s
    | some e =>
      if skipWindow e s || skipPower e s then arbiterPass ls s
      else if tooBusy e s then arbiterPass ls (deferTest e s)
      else startTest e s

/-- R135: the test arbiter runs while the bus is IDLE, outside DORMANT. -/
def runArbiter (s : State) : State :=
  if s.test.bus = .idle && !s.dormant then arbiterPass (s.test.queue.map TestReq.line) s else s

/-! ## The end of a step -/

/-- The notices raised within the step are acted on: one scan, if one is due (R118), then one run of the test arbiter, if it
has been told of anything (R135). DEDUCED (assumption 10), safe. -/
def settle (s : State) : State :=
  let quiet : Notes := { s.notes with scan := false, arbiter := false }
  let s1 := s.setNotes quiet
  let scanned := s.notes.scan && mayScan s
  let s2 := if scanned then scan s1 else s1
  let s3 := if scanned || s.notes.arbiter then runArbiter s2 else s2
  s3.setNotes quiet

end Sys2Proof.Machine
end

