-- ==== Sys2Proof/Machine/TestBus.lean ====
section
/-! DEFINITION. The test bus (section 7.3): the stages of a test, its end, bus FAULT, cancelling, and the abort for power; with what a
measurement result gives (sections 8.1 to 8.3). -/

namespace Sys2Proof.Machine

/-- The current test, changed. -/
def modTest (f : CurrentTest → CurrentTest) (s : State) : State := s.setTest { s.test with current := s.test.current.map f }

/-- R143, R147, R149: a set verdict leaves an earlier one in place. -/
def setVerdict (v : Verdict) (t : CurrentTest) : CurrentTest := { t with verdict := t.verdict.or (some v) }

/-- The outcome of a step that the test's stop leaves unrun. -/
def skipPending (o : StepOutcome) : StepOutcome := if o = .pending then .skipped else o

/-- R144: the bus enters RESTORE: RELEASE is sent, the stage timer starts, the outstanding step is abandoned, and the steps still
PENDING become SKIPPED. DEDUCED (assumption 17), unsafe. -/
def enterRestore (s : State) : State :=
  match s.test.current with
  | none => s
  | some t =>
    (s.setTest { s.test with
      bus := .restore
      current := some { t with outcomes := t.outcomes.each skipPending, current := none,
                               stageTimer := s.tables.test.restoreMs } }).emit (.release (some t.req.line))

/-- R141: the next PENDING step is commanded, or the bus enters RESTORE when none is. -/
def nextStep (s : State) : State :=
  match s.test.current with
  | none => s
  | some t =>
    match t.outcomes.nextPending with
    | some k =>
      (s.setTest { s.test with
        current := some { t with current := some k, stageTimer := s.tables.test.measureMs } }).emit (.measure t.req.line k)
    | none => enterRestore s

/-- R140, R141, R161: the bus enters MEASURE, with a copy of the judgement settings. -/
def enterMeasure (s : State) : State :=
  let k := s.tables.test
  let s1 := modTest (fun t => { t with judgement := some ⟨k.hazardMv, k.openOhms, k.insulMinKohm, k.capPerKm⟩ }) s
  nextStep (s1.setTest { s1.test with bus := .measure })

/-! ## Results (sections 8.1 to 8.3) -/

/-- R152: the three foreign voltages, clamped. -/
def clampVoltage (v : Int) : Int := clampInt (-200000) 200000 v

/-- R152: a source voltage, clamped. -/
def clampSource (v : Int) : Nat := (clampInt 1 200000 v).toNat

/-- R152: a current, clamped. -/
def clampCurrent (i : Int) : Nat := (clampInt 0 100000 i).toNat

/-- R153: the loop resistance in ohms and the open flag. -/
def loopResistance (vs i : Nat) : Nat × Bool :=
  if i = 0 then (Config.resistanceMax, true) else (min Config.resistanceMax (vs * 1000 / i), false)

/-- R154: the insulation resistance in kilohms. -/
def insulationResistance (vs i : Nat) : Nat := if i = 0 then Config.resistanceMax else vs / i

/-- R155: the loop length in metres. -/
def loopLengthOf (c capPerKm : Nat) : Nat := min 65535 (c * 1000 / capPerKm)

/-- The step of a result. -/
def stepOf : Measurement → TestStep
  | .foreignV .. => .foreignV
  | .loopR .. => .loopR
  | .cap .. => .cap
  | .insul .. => .insul

/-- R152 to R155: the values a result leaves in the current test record. -/
def storeValues (m : Measurement) (capPerKm : Nat) (v : Values) : Values :=
  match m with
  | .foreignV a b c => { v with foreign := some (clampVoltage a, clampVoltage b, clampVoltage c) }
  | .loopR vs i =>
    let r := loopResistance (clampSource vs) (clampCurrent i)
    { v with loop := some (clampSource vs, clampCurrent i, r.1, r.2) }
  | .cap c =>
    let n := (clampInt 0 10000 c).toNat
    { v with capacitance := some n, length := some (loopLengthOf n capPerKm) }
  | .insul vs i =>
    { v with insulation := some (clampSource vs, clampCurrent i,
                                 insulationResistance (clampSource vs) (clampCurrent i)) }

/-- R143: a FOREIGN_V result shows a hazard. -/
def hazardous (m : Measurement) (hazardMv : Nat) : Bool :=
  match m with
  | .foreignV a b c =>
    hazardMv ≤ (clampVoltage a).natAbs || hazardMv ≤ (clampVoltage b).natAbs || hazardMv ≤ (clampVoltage c).natAbs
  | _ => false

/-- R141, R143, R156: the result of the current step is taken. -/
def takeResult (m : Measurement) (t : CurrentTest) (j : Judgement) (s : State) : State :=
  let t1 := { t with outcomes := t.outcomes.put (stepOf m) .done, current := none, timeouts := 0,
                     values := storeValues m j.capPerKm t.values }
  let s1 := s.setTest { s.test with current := some t1 }
  let s2 := match stepOf m with
    | .cap => s1.modLine t.req.line fun x => { x with loopLength := t1.values.length }
    | _ => s1
  if hazardous m j.hazardMv then enterRestore (modTest (setVerdict .hazard) s2) else nextStep s2

/-- R150: a result is taken in MEASURE, for the test line and the current step; otherwise it is ignored. -/
def judgeResult (line : Nat) (m : Measurement) (s : State) : State :=
  match s.test.current with
  | none => s
  | some t =>
    match t.judgement with
    | none => s
    | some j =>
      if s.test.bus = .measure && lineNumber t.req.line = line && t.current = some (stepOf m) then takeResult m t j s else s

/-- R142: the current step's stage timer has reached 0. -/
def stepTimedOut (s : State) : State :=
  match s.test.current with
  | none => s
  | some t =>
    match t.current with
    | none => s
    | some k =>
      let t1 := { t with outcomes := t.outcomes.put k .timedOut, current := none, timeouts := t.timeouts + 1 }
      let s1 := s.setTest { s.test with current := some t1 }
      if 2 ≤ t1.timeouts then enterRestore (modTest (setVerdict .abortedFault) s1) else nextStep s1

/-! ## The end of a test -/

/-- The test commitment is released when the test holds it (R112). -/
def releaseHeld (s : State) : State :=
  match s.test.current with
  | none => s
  | some t => if t.commitHeld then releaseCommit (modTest (fun t => { t with commitHeld := false }) s) else s

/-- The current test record is discarded and the bus becomes IDLE, which is a notice to the arbiter (R135). -/
def freeBus (s : State) : State := noteArbiter (s.setTest { s.test with bus := .idle, current := none })

/-- R144, step 3: where a line goes at the end of its restore. -/
def returnLine (l : LineNo) (hazard : Bool) (s : State) : State :=
  if hazard then returnBlocked l s
  else if !(s.service l).enabled then enterDown l s
  else returnParked l s

/-- R144: the RELEASE confirm of a restore ends the test; a scan follows the step. -/
def endRestore (t : CurrentTest) (s : State) : State :=
  noteScan (freeBus (returnLine t.req.line (t.verdict = some .hazard) (concludeTest t (releaseHeld s))))

/-- R145: the restore has timed out; the bus enters FAULT and the line BLOCKED, with a held commitment kept. -/
def enterFault (t : CurrentTest) (s : State) : State :=
  let t1 := { t with verdict := if t.verdict = some .hazard then t.verdict else some .abortedFault }
  let s1 := s.setTest { s.test with bus := .fault, current := some t1 }
  returnBlocked t.req.line (concludeTest t1 s1)

/-- R146: a RELEASE confirm clears the FAULT; after a retry's confirm the fault line is unblocked. -/
def clearFault (t : CurrentTest) (s : State) : State :=
  let s1 := freeBus (releaseHeld s)
  let s2 := if t.retry then
      (if (s.service t.req.line).enabled then returnParked t.req.line s1 else enterDown t.req.line s1)
    else s1
  noteScan s2

/-- R150: a RELEASE confirm for the test line in RESTORE, or the fault line in FAULT, is taken; otherwise it is ignored. -/
def judgeRelease (line : Nat) (s : State) : State :=
  match s.test.current with
  | none => s
  | some t =>
    if lineNumber t.req.line = line then
      match s.test.bus with
      | .restore => endRestore t s
      | .fault => clearFault t s
      | _ => s
    else s

/-- R147, R148: the current test is cancelled in PREPARE or MEASURE. -/
def cancelCurrent (s : State) : State := enterRestore (modTest (setVerdict .cancelled) s)

/-- The line is the line of the current test. -/
def isTestLine (s : State) (l : LineNo) : Bool :=
  match s.test.current with
  | some t => t.req.line = l
  | none => false

/-- R22: the test bus is in FAULT on the line. -/
def isFaultLine (s : State) (l : LineNo) : Bool := s.test.bus = .fault && isTestLine s l

/-- The bus is in PREPARE or MEASURE. -/
def testRunning (s : State) : Bool := s.test.bus = .prepare || s.test.bus = .measure

/-- R149: the abort for power. -/
def abortForPower (s : State) : State :=
  let s1 := releaseHeld s
  if testRunning s then enterRestore (modTest (setVerdict .abortedPower) s1) else s1

/-- R112, R119: shed step 1 and DORMANT entry release the test commitment whatever the state of the bus. -/
def giveUpTest (s : State) : State := releaseCommit (abortForPower s)

/-! ## Requests of the Line Controller and the station -/

/-- R6, R148: a Service write sets enabled to no. -/
def disableLine (l : LineNo) (s0 : State) : State :=
  let s := cancelQueued l s0
  match (s.line l).state with
  | .down => s
  | .parked => enterDown l (removeWait l s)
  | .listening | .training | .active | .idleLow => enterDown l (setCost l 0 (withdraw l s))
  | .testing => if isTestLine s l && testRunning s then cancelCurrent s else s
  | .blocked => if isFaultLine s l then s else enterDown l s

/-- R5: a Service write sets enabled to yes. -/
def enableLine (l : LineNo) (s : State) : State :=
  if (s.line l).state = .down then addWaitScan l .listen (s.modLine l fun x => { x with state := .parked }) else s

end Sys2Proof.Machine
end

