-- ==== Sys2Proof/Machine/Supply.lean ====
section
/-! DEFINITION. The supply modes (section 6.3), shedding (section 6.6), the reference in use (R164), and the dormant state
(section 6.7). -/

namespace Sys2Proof.Machine

/-! ## Shedding (R119 to R121) -/

/-- The lines of a shed class, highest line number first. -/
def classLines (s : State) (c : Nat) : List LineNo := allLines.reverse.filter fun l => (s.service l).shedClass = c

/-- R120: an action is taken on each line in turn while committed power exceeds the budget. -/
def shedWhileOver (ls : List LineNo) (act : LineNo → State → State) (s : State) : State :=
  forLines ls (fun l s => if budget s < committed s then act l s else s) s

/-- R121: the entries of the lines a shed has moved: LISTEN for those now PARKED, PROMOTE for those demoted, in ascending line
number. DEDUCED (assumption 25), safe. -/
def shedEntries (before s : State) : State :=
  forLines allLines (fun l s =>
    if (before.line l).powered && (s.line l).state = .parked then addWait l .listen none s
    else if (before.line l).state = .active && (s.line l).state = .idleLow then addWait l .promote none s
    else s) s

/-- R120, step 1 of a shed: with a test commitment of 0 it does nothing. -/
def shedTest (s : State) : State := if s.power.testCommit = 0 then s else giveUpTest s

/-- R120: the Power Controller sheds when committed power exceeds the budget; one scan follows (R121). -/
def shed (s : State) : State :=
  if committed s ≤ budget s then s
  else
    let s1 := shedTest s
    let s2 := shedWhileOver (classLines s 2) shedLine s1
    let s3 := shedWhileOver (classLines s 1) shedLine s2
    let s4 := shedWhileOver (classLines s 0) demote s3
    let s5 := shedWhileOver (classLines s 0) shedLine s4
    noteScan (shedEntries s s5)

/-! ## The reference in use (R164) -/

/-- The recovered uplink reference is present. -/
def refPresent (s : State) : Bool := s.uplink.up && s.uplink.refValid

/-- The reference in use by the settings and the presence of the recovered one. -/
def wantedRef (s : State) : Reference :=
  if s.tables.time.reference = .recovered && refPresent s then .recovered else .oscillator

/-- The frequency of a reference: whole kHz and fraction. -/
def refFrequency (t : TimeSettings) : Reference → Nat × Nat
  | .oscillator => (t.localKhz, t.localFrac)
  | .recovered => (t.uplinkKhz, t.uplinkFrac)

/-- R164: the reference in use becomes `r`; at a change the millisecond in progress starts again on it. -/
def useReference (r : Reference) (s : State) : State :=
  if s.time.inUse = r then s
  else s.setTime { s.time with inUse := r, periodCount := 0, phase := 0, msLength := (refFrequency s.tables.time r).1 }

/-- R164: the presence of the recovered reference may have changed; a fall from UPLINK to LOCAL raises REFERENCE_LOST. -/
def followReference (s : State) : State :=
  let s1 := useReference (wantedRef s) s
  if s.time.inUse = .recovered && s1.time.inUse = .oscillator then raisePart .referenceLost s1 else s1

/-- R163: a millisecond starts on the reference in use. DESIGN CHOICE (assumption 14), safe. -/
def startMillisecond (s : State) : State :=
  let f := refFrequency s.tables.time s.time.inUse
  let sum := s.time.phase + f.2
  if 65536 ≤ sum then s.setTime { s.time with periodCount := 0, phase := sum - 65536, msLength := f.1 + 1 }
  else s.setTime { s.time with periodCount := 0, phase := sum, msLength := f.1 }

/-! ## DORMANT entry (R122 to R125) -/

/-- R122: a wake source is armed. -/
def wakeArmed (t : Tables) : Bool :=
  t.power.wakeOnFeed || t.power.wakeOnButton || t.power.wakeOnEnergy ||
    t.alarms.toList.any fun a => a.enabled && a.action = .wake

/-- R122, R123: where no wake source is armed, wake_on_feed is set to yes. -/
def armFeed (s : State) : State :=
  if wakeArmed s.tables then s
  else s.setTables { s.tables with power := { s.tables.power with wakeOnFeed := true } }

/-- R25: a line at DORMANT entry. -/
def dormantLine (l : LineNo) (s : State) : State :=
  if (s.line l).powered then
    (setCost l 0 (withdraw l s)).modLine l fun x => { x with state := .parked, backoff := 0 }
  else s

/-- R25: the LINE_MODE every line is sent at DORMANT entry. A TESTING line is sent OFF and stays released for its test, so that its
return from TESTING sends its mode (section 1.3). DEDUCED (assumption 29), safe. -/
def dormantMode (l : LineNo) (s : State) : State :=
  match (s.line l).state with
  | .parked => sendMode l (parkedMode l s) s
  | .testing => s.emit (.lineMode l .off)
  | _ => sendMode l .off s

/-- R134: the Test Queue is emptied at DORMANT entry, with one TEST_DROPPED if it held any entry. -/
def dropTests (s : State) : State :=
  let s1 := s.setTest { s.test with queue := [], quiet := 0, quietDue := false }
  if s.test.queue.isEmpty then s1 else raisePart .testDropped s1

/-- R183: the notification has left the outbound control queue, sent or not; unsent, the last-notified state is emptied. -/
def notificationLeft (sent : Bool) (s : State) : State :=
  s.setMgmt { s.mgmt with
    last := if sent then s.mgmt.last else {}
    notif := .holdoff
    holdoff := s.tables.mgmt.holdoffMs }

/-- R187: the restart is due when the response of the first Restart request is discarded. -/
def noteDiscardedRestart (s : State) : State :=
  if s.uplink.control.any fun f => f.role = .restartResponse then s.setNotes { s.notes with restart := true } else s

/-- R124, step 1: the mode and the budget; an entry pending is no longer. An entry made before a restart's first poll has ended ends the
wait of R111 for it. DESIGN CHOICE (assumption 50), unsafe. -/
def entryMode (s : State) : State :=
  raisePart .modeChange (s.setPower { s.power with mode := .dormant, awaiting := false, entryPending := false, entryTimer := 0 })

/-- R124, step 2: the test commitment and the Test Queue. -/
def entryTests (s : State) : State := dropTests (giveUpTest s)

/-- R124, step 3: the lines. -/
def entryLines (s : State) : State := forLines allLines dormantMode (forLines allLines dormantLine s)

/-- R124, step 4: the Power Wait Queue. -/
def entryWaits (s : State) : State := s.setPower { s.power with wait := [] }

/-- R124, step 5: the terminal, the capacity and the reference in use. -/
def entryTerminal (s : State) : State :=
  (useReference .oscillator (s.setUplink { s.uplink with
    up := false, terminalOn := false, reported := 0, effective := 0, basis := 0 })).emit .terminalOff

/-- R124, steps 5 and 6: the share result and the credits. -/
def entryShare (s : State) : State :=
  (s.setShare {}).setLines (s.lines.map fun x => { x with allocation := 0, credit := 0 })

/-- R124, step 6: the hold timer, the positions, the control queue and the transmitter. -/
def entryControl (s : State) : State :=
  (noteDiscardedRestart s).setUplink { s.uplink with hold := 0, eligiblePos := 0, borrowPos := 0, control := [], tx := none }

/-- R183: a notification in the control queue is discarded with it. -/
def entryNotification (s : State) : State := if s.mgmt.notif = .queued then notificationLeft false s else s

/-- R124, step 7: the request queue. -/
def entryRequests (s : State) : State := s.setMgmt { s.mgmt with requests := [] }

/-- R124, step 8: the wake latches are cleared; the last wake cause stays until the next exit. DEDUCED (assumption 42), safe. -/
def entryLatches (s : State) : State := s.setPower { s.power with latches := {}, wakeTaken := false }

/-- R124: DORMANT entry, as one step of the Power Controller. -/
def dormantEntry (s : State) : State :=
  entryLatches (entryRequests (entryNotification (entryControl (entryShare (entryTerminal (entryWaits (entryLines
    (entryTests (entryMode s)))))))))

/-! ## Mode evaluation (R109 to R111) -/

/-- R109: the mode the evaluation gives; `held` is the mode held, and none at a restart (R111). -/
def evaluateMode (s : State) (held : Option Mode) : Mode :=
  let t := s.tables.power
  if s.power.settled then .normal
  else match s.power.sample with
    | none => .reserve
    | some v =>
      if v < t.cutoffMv then .dormant
      else if v < t.reserveMv then .reserve
      else if held = some .reserve && decide (v < t.recoverMv) then .reserve
      else .holdup

/-- R123: the automatic entry. -/
def automaticEntry (s : State) : State := dormantEntry (armFeed s)

/-- R110, steps 1 to 4, for a change of mode outside DORMANT. -/
def changeMode (m : Mode) (s : State) : State :=
  let s1 := raisePart .modeChange (s.setPower { s.power with mode := m })
  let s2 := shed s1
  noteArbiter (if budget s < budget s1 then noteScan s2 else s2)

/-- R109: the supply mode is evaluated outside DORMANT, once a restart's first poll has ended (R111). -/
def evaluateSupply (s : State) : State :=
  if s.power.awaiting || s.dormant then s
  else
    let m := evaluateMode s (some s.power.mode)
    if m = s.power.mode then s
    else if m = .dormant then automaticEntry s
    else changeMode m s

/-- R4, R111, R127: every PARKED line that holds none is given a LISTEN entry, in ascending line number. -/
def listenEntries (s : State) : State :=
  noteScan (forLines allLines (fun l s => if (s.line l).state = .parked then addWait l .listen none s else s) s)

/-- R111: the restart's mode evaluation, when its first poll has ended. DEDUCED (assumption 18), safe. -/
def restartEvaluation (s : State) : State :=
  match evaluateMode s none with
  | .dormant => automaticEntry s
  | m => listenEntries (s.setPower { s.power with mode := m, awaiting := false })

/-! ## DORMANT exit (R126, R127) -/

/-- R127: the supply can carry the part. -/
def supplyCarries (s : State) : Bool :=
  s.power.settled || (match s.power.sample with
    | none => true
    | some v => decide ((s.tables.power.cutoffMv : Int) ≤ v))

/-- R25: a line listening for wake stops. -/
def endWakeListening (l : LineNo) (s : State) : State :=
  if (s.line l).state = .parked then setMode l .off s else s

/-- R127: DORMANT exit, as one step of the Power Controller. -/
def dormantExit (s : State) : State :=
  let s1 := raisePart .modeChange (s.setPower { s.power with mode := evaluateMode s (some .reserve), wakeTaken := false })
  let s2 := reevaluate ((s1.setUplink { s1.uplink with terminalOn := true }).emit .terminalOn)
  let s3 := forLines allLines endWakeListening (listenEntries s2)
  noteArbiter (raiseWake s3)

/-- R127: the exit condition is tested, once a wake has been taken. -/
def testExit (s : State) : State :=
  if s.dormant && s.power.wakeTaken && supplyCarries s then dormantExit s else s

/-- R126: the latch of a source is set. -/
def Latches.set (x : Latches) : WakeSource → Latches
  | .feed => { x with feed := true }
  | .button => { x with button := true }
  | .energy => { x with energy := true }
  | .alarm => { x with alarm := true }

/-- R126: a source is armed; an alarm's enable is its arming. -/
def sourceArmed (t : PowerTable) : WakeSource → Bool
  | .feed => t.wakeOnFeed
  | .button => t.wakeOnButton
  | .energy => t.wakeOnEnergy
  | .alarm => true

/-- R126: a wake event is taken: in DORMANT its latch is set, and the first armed one is the wake. -/
def wakeEvent (src : WakeSource) (index : Nat) (s : State) : State :=
  if !s.dormant then s
  else
    let s1 := s.setPower { s.power with latches := s.power.latches.set src }
    if sourceArmed s.tables.power src && !s.power.wakeTaken then
      testExit (s1.setPower { s1.power with wakeTaken := true, lastCause := some ⟨src, index, s.time.now⟩ })
    else s1

/-! ## Supply inputs (section 6.2) -/

/-- R107: the settled feed state takes the pin's level. -/
def settleFeed (s : State) : State :=
  let s1 := s.setPower { s.power with settled := s.pins.feedOk, settleCount := 0, settleDue := false }
  if s.dormant then testExit (if s.pins.feedOk then wakeEvent .feed 0 s1 else s1) else evaluateSupply s1

/-- R108: the battery state after a poll. -/
def pollOutcome (reading : Option Int) (p : PowerCtl) : PowerCtl :=
  match reading with
  | some v => { p with polling := false, sample := some (clampInt (-100000) 100000 v), failures := 0 }
  | none =>
    if p.failures < 2 then { p with polling := false, failures := p.failures + 1 }
    else { p with polling := false, sample := none, failures := 3 }

/-- R108, R111: a poll ends; the mode is evaluated, or the exit condition is tested in DORMANT. -/
def endPoll (reading : Option Int) (s : State) : State :=
  let s1 := s.setPower (pollOutcome reading s.power)
  if s.power.awaiting then restartEvaluation s1
  else if s.dormant then testExit s1
  else evaluateSupply s1

/-- R108: a poll starts. -/
def startPoll (s : State) : State := (s.setPower { s.power with polling := true, pollTimer := 0 }).emit .pollBattery

end Sys2Proof.Machine
end

