-- ==== Sys2Proof/Machine/Restart.lean ====
section
/-! DEFINITION. Cold start, warm restart and what each keeps (sections 11.1 and 11.2; R4, R69, R85, R91, R104, R111, R151, R166), the
endings of a transmission that involve the control queue (R101, R122, R183, R187), and the frame of every step. -/

namespace Sys2Proof.Machine

/-! ## Restart -/

/-- R185, stage 1: a cold start, with the messages of the step so far. -/
def coldStart (pins : Pins) (s : State) : State :=
  let c := coldState pins s.image.region s.pending
  { c with out := s.out ++ c.out }

/-- R4: a Line Record after a restart, which keeps the estimated loop length. -/
def freshLine (enabled : Bool) (loopLength : Option Nat) : Line :=
  { state := if enabled then .parked else .down, loopLength := loopLength }

/-- R187: everything takes its warm-restart value, and the part is held. Kept: the tables, the save count, the estimated loop lengths,
the Results Table, cabinet time, the pins, what the terminal marks its reference as, and the image region.
DESIGN CHOICE (assumption 9), unsafe. DEDUCED (assumption 23), safe. DEDUCED (assumption 40), unsafe. -/
def warmValues (s : State) : State :=
  let t := (useReference .oscillator s).time
  { coldState s.pins s.image.region s.pending with
    stage := .held
    time := { t with windowOpen := true }
    tables := s.tables
    image := { count := s.image.count, region := s.image.region }
    lines := Vector.ofFn fun l => freshLine (s.service l).enabled (s.line l).loopLength
    uplink := { refValid := s.uplink.refValid }
    results := s.results
    out := s.out }

/-- R185 stage 3, R187: the blocks begin taking events: the first battery poll starts, and RESTART is captured. -/
def beginRun (kind : RestartKind) (s : State) : State := raiseRestart kind (startPoll (s.setStage .run))

/-- R187: a warm restart. -/
def warmRestart (pins : Pins) (s : State) : State :=
  let w := warmValues (s.setPins pins)
  beginRun .warm { w with out := w.out ++ restartMessages }

/-- R185, R186: the load ends. The bytes of the read alone say whether the image is good: that they are what a save has left in the
region (R189) is the flash's part. DEDUCED (assumption 20), safe. -/
def endLoad (data : Option Bytes) (s : State) : State :=
  match data with
  | some b =>
    if imageGood b then
      let i := readImage b
      run i.tables i.count false
    else run (emptyTables s.pins.straps) 0 true
  | none => run (emptyTables s.pins.straps) 0 true
where
  run (t : Tables) (count : Nat) (imageBad : Bool) : State :=
    let s1 := (s.setTables t).setImage { s.image with count := count }
    let s2 := s1.setLines (Vector.ofFn fun l => freshLine (s1.service l).enabled none)
    let s3 := beginRun .cold (startMillisecond s2)
    if imageBad then raisePart .imageBad s3 else s3

/-- R187, R107: the requested restart is made, with the FEED_OK level last sampled. DESIGN CHOICE (assumption 33), safe. -/
def performRestart (s : State) : State :=
  match s.mgmt.restartPending with
  | some .cold => coldStart s.pins s
  | some .warm => warmRestart s.pins s
  | none => s

/-! ## The control queue and the endings of a transmission (R98, R101) -/

/-- R122: the DORMANT entry of an accepted Enter Dormant is made. -/
def pendingEntry (s : State) : State := if s.power.entryPending then dormantEntry (armFeed s) else s

/-- R122, R183, R187: a frame has left the control queue, by its last byte being sent or by being abandoned. -/
def controlLeft (role : CtlRole) (sent : Bool) (s : State) : State :=
  match role with
  | .response => s
  | .notification => notificationLeft sent s
  | .dormantResponse => pendingEntry s
  | .restartResponse => s.setNotes { s.notes with restart := true }

/-- R101: the frame in transmission has been sent to its last byte. DESIGN CHOICE (assumption 2), safe. -/
def endTransmission (s : State) : State :=
  match s.uplink.tx with
  | none => s
  | some .control =>
    match s.uplink.control with
    | [] => s.setUplink { s.uplink with tx := none }
    | f :: fs =>
      controlLeft f.role true ((s.setUplink { s.uplink with tx := none, control := fs }).emit (.uplinkSent f.data))
  | some (.line l) =>
    let s1 := s.setUplink { s.uplink with tx := none }
    match (s.line l).upq with
    | [] => s1
    | f :: _ => popUp l (s1.emit (.uplinkSent f.data))

/-- R57, R101: the link has gone down, and the frame in transmission is abandoned. -/
def abandonTransmission (s : State) : State :=
  match s.uplink.tx with
  | none => s
  | some .control =>
    match s.uplink.control with
    | [] => s.setUplink { s.uplink with tx := none }
    | f :: fs => controlLeft f.role false (s.setUplink { s.uplink with tx := none, control := fs })
  | some (.line l) =>
    let s1 := s.setUplink { s.uplink with tx := none }
    match (s.line l).upq with
    | [] => s1
    | _ :: _ => popUp l (dropUp l 1 s1)

/-! ## The frame of a step -/

/-- A step begins: nothing sent and nothing noted yet. -/
def opened (s : State) : State := { s with out := [], notes := {} }

/-- A step ends: a restart that is due is made; otherwise the scan and the arbiter's run that are due (`settle`), and then the
transmit arbiter's choice (R99). DEDUCED (assumptions 10, 30 and 45), safe. -/
def closed (s : State) : State := if s.notes.restart then (performRestart s).setNotes {} else chooseFrame (settle s)

/-- What `exec` answers. -/
abbrev Answer := Host.Outcome State Fault Refusal

/-- A command is taken while the part runs; in the load of a cold start, and while RESET_N is held low, no event is (R185, R187). -/
def onRun (f : State → State) (s : State) : Answer :=
  if s.stage = .run then .next (closed (f (opened s))) else .next (opened s)

end Sys2Proof.Machine
end

