-- ==== Sys2Proof/Machine/Views.lean ====
section
/-! DEFINITION. What reads return: the read-out entries of the tables and views (sections 12.1 and 12.3), the counters (R27, R68), and
the event state (R182, R184, section 12.2). -/

namespace Sys2Proof.Machine

/-! ## Codes of named values: the position in the Values column, counting from 0 (section 12.1)

Where no table of the manual gives the values a column, they are coded in the order in which their rule lists them. -/

def LineState.code : LineState → Nat
  | .down => 0 | .parked => 1 | .listening => 2 | .training => 3 | .active => 4 | .idleLow => 5 | .testing => 6 | .blocked => 7

def WaitKind.code : WaitKind → Nat
  | .listen => 0 | .train => 1 | .promote => 2

def Mode.code : Mode → Nat
  | .normal => 0 | .holdup => 1 | .reserve => 2 | .dormant => 3

/-- R139: the bus state, in the order of its table. DEDUCED (assumption 49), unsafe. -/
def BusState.code : BusState → Nat
  | .idle => 0 | .prepare => 1 | .measure => 2 | .restore => 3 | .fault => 4

def WakeSource.code : WakeSource → Nat
  | .feed => 0 | .button => 1 | .energy => 2 | .alarm => 3

/-- R183: the notification state, in the order listed. DEDUCED (assumption 49), unsafe. -/
def NotifState.code : NotifState → Nat
  | .idle => 0 | .due => 1 | .queued => 2 | .holdoff => 3

/-- R139: the current step, in the order of the step list. DEDUCED (assumption 49), unsafe. -/
def stepCode : TestStep → Nat
  | .foreignV => 0 | .loopR => 1 | .cap => 2 | .insul => 3

/-- The verdict codes of section 12.3, with 0 for absent. -/
def verdictCode : Option Verdict → Nat
  | none => 0
  | some .hazard => 1 | some .abortedFault => 2 | some .abortedPower => 3 | some .cancelled => 4 | some .deferredOut => 5
  | some .openLoop => 6 | some .lowInsulation => 7 | some .incomplete => 8 | some .pass => 9

/-- UP and LOST, UP and DOWN, PRESENT and ABSENT, OPEN and CLOSED: the first is code 0. OPEN and CLOSED (R162) stand in no Values column:
DEDUCED (assumption 49), unsafe. -/
def firstCode (b : Bool) : Bytes := [if b then 0 else 1]

/-! ## Line Records (R3) -/

/-- A Line Record, field by field in the order of R3's table. -/
def lineBytes (s : State) (l : LineNo) : Bytes :=
  let x := s.line l
  beBytes 1 x.state.code ++ optBytes 1 (fun p : ProfileNo => beBytes 1 p.val) x.running ++ beBytes 2 x.ability.toNat ++
    boolByte x.powerSave ++ optBytes 2 (beBytes 2) x.attenuation ++ optBytes 4 (beBytes 4) x.identity ++
    optBytes 2 (beBytes 2) x.loopLength ++ beBytes 4 x.allocation ++ beBytes 4 x.ceiling ++ beBytes 4 x.credit ++
    beBytes 2 (depth x.upq) ++ beBytes 2 (depth x.dnq) ++ beBytes 1 x.failures ++ beBytes 2 x.backoff ++
    optBytes 6 (beBytes 6) x.windowStart ++ beBytes 1 x.retrains ++ beBytes 2 x.cost ++
    optBytes 1 (fun k : WaitKind => beBytes 1 k.code) (waitKind s l) ++ optBytes 6 (beBytes 6) x.lastFrame ++
    firstCode s.links[linkOf l].up

/-! ## Share Result (R77) -/

/-- The Share Result view, field by field in the order of R77's table. -/
def shareBytes (s : State) : Bytes :=
  s.lines.toList.flatMap (fun x => beBytes 4 x.allocation) ++ beBytes 4 s.share.snapshot ++ beBytes 4 s.share.spare ++
    boolByte s.share.oversubscribed ++ boolByte s.share.flight.isSome ++ boolByte s.share.again ++ firstCode s.uplink.up ++
    beBytes 4 s.uplink.reported ++ beBytes 4 s.uplink.effective ++ beBytes 4 s.uplink.basis

/-! ## Power Status (R128, section 12.3) -/

/-- A wake cause: source, index and cabinet time. -/
def causeBytes (c : WakeCause) : Bytes := beBytes 1 c.source.code ++ beBytes 1 c.index ++ beBytes 6 c.time

/-- A wait entry, 10 bytes. -/
def waitBytes (e : WaitEntry) : Bytes :=
  beBytes 1 (lineNumber e.line) ++ beBytes 1 e.kind.code ++ beBytes 1 e.cls ++ beBytes 4 e.stamp ++ optBytes 2 (beBytes 2) e.need

/-- The latches in one byte: bit 0 FEED, 1 BUTTON, 2 ENERGY, 3 ALARM. -/
def latchBits (x : Latches) : Nat :=
  (if x.feed then 1 else 0) + (if x.button then 2 else 0) + (if x.energy then 4 else 0) + (if x.alarm then 8 else 0)

/-- The Power Status view, 509 bytes. -/
def powerStatusBytes (s : State) : Bytes :=
  let p := s.power
  beBytes 1 p.mode.code ++ beBytes 2 (budget s) ++ beBytes 2 (committed s) ++ beBytes 2 p.testCommit ++
    firstCode s.pins.feedOk ++ firstCode p.settled ++ beBytes 2 p.settleCount ++ optBytes 4 (beInt 4) p.sample ++
    beBytes 1 p.failures ++ boolByte p.entryPending ++ beBytes 1 (latchBits p.latches) ++ optBytes 8 causeBytes p.lastCause ++
    beBytes 1 p.wait.length ++ p.wait.flatMap waitBytes ++ List.replicate ((48 - p.wait.length) * 10) 0

/-! ## Test Queue and Results Table (R139, R158, section 12.3) -/

/-- A test request record, 12 bytes. -/
def requestBytes (r : TestReq) : Bytes :=
  beBytes 1 (lineNumber r.line) ++ beBytes 1 r.origins.toNat ++ beBytes 1 r.priority ++ beBytes 1 r.steps.toNat ++
    beBytes 1 ((if r.force then 1 else 0) + (if r.tag.isSome then 2 else 0)) ++ beBytes 1 r.defers ++ beBytes 4 r.stamp ++
    beBytes 2 (r.tag.getD 0)

/-- The code of a step's outcome in the Test Queue view; a step outside the list reads 0. DEDUCED (assumption 15), unsafe. -/
def viewOutcome : StepOutcome → Nat
  | .notRun => 0 | .pending => 0 | .done => 1 | .timedOut => 2 | .skipped => 3

/-- The code of a step's outcome in a result record: 0 NOT_RUN. -/
def resultOutcome : StepOutcome → Nat
  | .notRun => 0 | .pending => 0 | .done => 1 | .timedOut => 2 | .skipped => 3

/-- Two bits per step, FOREIGN_V lowest. -/
def outcomeBits (f : StepOutcome → Nat) (o : Outcomes) : Nat :=
  f o.foreignV + 4 * f o.loopR + 16 * f o.cap + 64 * f o.insul

/-- Bytes 2 to 26 of the Test Queue view. -/
def currentBytes (t : CurrentTest) : Bytes :=
  requestBytes t.req ++ beBytes 1 (outcomeBits viewOutcome t.outcomes) ++
    beBytes 1 (match t.current with | some k => stepCode k | none => 0xFF) ++ beBytes 1 t.timeouts ++
    beBytes 1 (verdictCode t.verdict) ++ beBytes 2 t.stageTimer ++
    beBytes 1 ((if t.commitHeld then 1 else 0) + (if t.retry then 2 else 0)) ++ beBytes 6 t.startTime

/-- The Test Queue view, 171 bytes. -/
def testQueueBytes (s : State) : Bytes :=
  let q := s.test.queue
  beBytes 1 s.test.bus.code ++ beBytes 1 q.length ++
    (match s.test.current with | some t => currentBytes t | none => List.replicate 25 0) ++
    q.flatMap requestBytes ++ List.replicate ((12 - q.length) * 12) 0

/-- A Results Table entry, 53 bytes. -/
def resultBytes (r : ResultRec) : Bytes :=
  let v := r.values
  let (a, b, c) := v.foreign.getD (0, 0, 0)
  let (lvs, li, lr, lopen) := v.loop.getD (0, 0, 0, false)
  let (ivs, ii, ir) := v.insulation.getD (0, 0, 0)
  beBytes 1 (verdictCode r.verdict) ++ beBytes 6 r.endTime ++ beBytes 1 r.origins.toNat ++ beBytes 1 r.steps.toNat ++
    beBytes 1 (outcomeBits resultOutcome r.outcomes) ++
    beBytes 1 ((if r.tag.isSome then 1 else 0) + (if v.foreign.isSome then 2 else 0) + (if v.loop.isSome then 4 else 0) +
      (if v.capacitance.isSome then 8 else 0) + (if v.length.isSome then 16 else 0) + (if v.insulation.isSome then 32 else 0) +
      (if lopen then 64 else 0)) ++
    beBytes 2 (r.tag.getD 0) ++ beInt 4 a ++ beInt 4 b ++ beInt 4 c ++ beBytes 4 lvs ++ beBytes 4 li ++ beBytes 4 lr ++
    beBytes 2 (v.capacitance.getD 0) ++ beBytes 2 (v.length.getD 0) ++ beBytes 4 ivs ++ beBytes 4 ii ++ beBytes 4 ir

/-! ## Tables and views by number (R175, section 12.3) -/

/-- R175: the table's first index and the number of its entries; a number beyond 16, or 0, names no table. -/
def tableRange : Nat → Option (Nat × Nat)
  | 1 => some (1, 48)
  | 2 => some (0, 16)
  | 3 => some (0, 1)
  | 4 => some (0, 192)
  | 5 => some (0, 1)
  | 6 => some (0, 1)
  | 7 => some (0, 1)
  | 8 => some (0, 1)
  | 9 => some (0, 8)
  | 10 => some (0, 1)
  | 11 => some (0, 1)
  | 12 => some (1, 48)
  | 13 => some (0, 1)
  | 14 => some (0, 1)
  | 15 => some (0, 1)
  | 16 => some (1, 48)
  | _ => none

/-- The bytes of entry `i` of a vector-shaped table. -/
def vecBytes (v : Vector α n) (f : α → Bytes) (i : Nat) : Bytes :=
  match v[i]? with
  | some x => f x
  | none => []

/-- A read entry: the table's fields, with the readings its rule appends (R162, chapter 11). The save state is sent as IDLE 0 and SAVING 1,
and the reference in use as reference is: DEDUCED (assumption 49), unsafe. -/
def readEntry (s : State) (table index : Nat) : Bytes :=
  let t := s.tables
  match table with
  | 1 => vecBytes t.service serviceBytes (index - 1)
  | 2 => vecBytes t.profiles profileBytes index
  | 3 => beBytes 2 t.pageMs
  | 4 => vecBytes t.forwarding forwardBytes index
  | 5 => uplinkBytes t.uplink
  | 6 => powerBytes t.power
  | 7 => testBytes t.test
  | 8 => timeBytes t.time ++ beBytes 6 s.time.now ++ beBytes 1 s.time.inUse.code ++ firstCode s.time.windowOpen
  | 9 => vecBytes t.alarms alarmBytes index
  | 10 => beBytes 3 t.eventEnable.toNat
  | 11 => mgmtBytes t.mgmt ++ boolByte (s.image.phase ≠ .idle) ++ beBytes 2 s.image.count
  | 12 => (lineOf index).elim [] (lineBytes s)
  | 13 => shareBytes s
  | 14 => powerStatusBytes s
  | 15 => testQueueBytes s
  | 16 => vecBytes s.results resultBytes (index - 1)
  | _ => []

/-- R176: the index lies inside the table. -/
def insideTable (table index : Nat) : Bool :=
  match tableRange table with
  | some (first, n) => first ≤ index && index < first + n
  | none => false

/-- R176: entries while the payload stays within 1400 bytes; answers the payload and how many. -/
def cutPayload : Nat → List Bytes → Bytes × Nat
  | _, [] => ([], 0)
  | room, e :: es =>
    if e.length ≤ room then
      let r := cutPayload (room - e.length) es
      (e ++ r.1, r.2 + 1)
    else ([], 0)

/-! ## Counters (R27, R68) -/

/-- A line's counters, 19 bytes. -/
def counterBytes (s : State) (l : LineNo) : Bytes :=
  let c := (s.line l).counters
  beBytes 1 (lineNumber l) ++ beBytes 4 c.framesUp ++ beBytes 4 c.framesDown ++ beBytes 2 c.dropsUp ++ beBytes 2 c.dropsDown ++
    beBytes 2 c.crcErr ++ beBytes 2 c.los ++ beBytes 2 c.retrains

/-- The uplink set, line 0, 16 bytes. -/
def uplinkCounterBytes (s : State) : Bytes :=
  beBytes 1 0 ++ beBytes 4 s.pool.oversize ++ beBytes 4 s.pool.undersize ++ beBytes 4 s.pool.unknownTag ++
    beBytes 2 s.pool.free ++ boolByte s.pool.exhausted

/-- The counters of a line number, 0 for the uplink set. -/
def countersOf (s : State) (n : Nat) : Bytes := (lineOf n).elim (uplinkCounterBytes s) (counterBytes s)

/-- R27, R68: the counters of a line number are cleared. -/
def clearCounters (n : Nat) (s : State) : State :=
  match lineOf n with
  | some l => s.modLine l fun x => { x with counters := {} }
  | none => s.setPool { s.pool with oversize := 0, undersize := 0, unknownTag := 0 }

/-! ## Events (R182, R184, section 12.2) -/

/-- Kinds and line sets, 27 bytes. -/
def eventSetBytes (e : EventSet) : Bytes :=
  beBytes 3 e.kinds.toNat ++ beBytes 6 e.lineUp.toNat ++ beBytes 6 e.lineLost.toNat ++ beBytes 6 e.trainFail.toNat ++
    beBytes 6 e.shed.toNat

/-- The notification payload, 43 bytes: the details stand where their kinds are pending. DEDUCED (assumption 15), unsafe. -/
def notificationBytes (s : State) : Bytes :=
  let p := s.mgmt.pending
  beBytes 6 s.time.now ++ beBytes 1 p.classes ++ eventSetBytes p ++
    beBytes 1 (if p.hasPart .restart && s.mgmt.restartDetail = some .warm then 1 else 0) ++
    (if p.hasPart .wake then s.mgmt.wakeDetail.elim (List.replicate 8 0) causeBytes else List.replicate 8 0)

/-- The Read Events payload, 76 bytes. -/
def readEventsBytes (s : State) : Bytes :=
  notificationBytes s ++ eventSetBytes s.mgmt.last ++ beBytes 3 s.tables.eventEnable.toNat ++
    beBytes 1 s.mgmt.notif.code ++ beBytes 2 s.mgmt.holdoff

end Sys2Proof.Machine
end

