-- ==== Sys2Proof/Machine/Requests.lean ====
section
/-! DEFINITION. Management requests: the frame's fields and the rows of the table they spell (section 12.2), the checks of R173, the
processing of the head of the request queue with its response (R172, R174), and the building of a notification (R183, R184). -/

namespace Sys2Proof.Machine

/-! ## The request frame (section 12.2) -/

/-- The header ends at offset 23, where the payload begins. -/
def headerEnd : Nat := 23

def reqCode (f : Bytes) : Nat := field f 14 1
def reqTag (f : Bytes) : Nat := field f 15 2
def reqTable (f : Bytes) : Nat := field f 17 1
def reqFirst (f : Bytes) : Nat := field f 18 2
def reqCount (f : Bytes) : Nat := field f 20 1
def reqLength (f : Bytes) : Nat := field f 21 2
def reqPayload (f : Bytes) : Bytes := f.drop headerEnd

/-- The rows of the command table that process a request. -/
inductive ReqKind where
  | readEntries | writeService | writeProfile | writeProfileSettings | writeForwarding | writeUplinkSettings | writePowerTable
  | writeTestTable | writeTimeSettings | writeAlarm | writeEventEnable | writeManagementSettings | readCounters | readEvents
  | clearEvents | requestTest | cancelTest | unblockLine | forceRetrain | setTime | enterDormant | restart | saveImage | unknown
  deriving DecidableEq, Repr

/-- The row of a Write Entries to a table; an unknown or read-only table has none of its own. -/
def writeKind : Nat → ReqKind
  | 1 => .writeService
  | 2 => .writeProfile
  | 3 => .writeProfileSettings
  | 4 => .writeForwarding
  | 5 => .writeUplinkSettings
  | 6 => .writePowerTable
  | 7 => .writeTestTable
  | 8 => .writeTimeSettings
  | 9 => .writeAlarm
  | 10 => .writeEventEnable
  | 11 => .writeManagementSettings
  | _ => .unknown

/-- The row a request's frame belongs to. -/
def kindOf (f : Bytes) : ReqKind :=
  if f.length < headerEnd then .unknown
  else match reqCode f with
    | 0x01 => .readEntries
    | 0x02 => writeKind (reqTable f)
    | 0x03 => .readCounters
    | 0x04 => .readEvents
    | 0x05 => .clearEvents
    | 0x06 => .requestTest
    | 0x07 => .cancelTest
    | 0x08 => .unblockLine
    | 0x09 => .forceRetrain
    | 0x0A => .setTime
    | 0x0B => .enterDormant
    | 0x0C => .restart
    | 0x0D => .saveImage
    | _ => .unknown

/-- The write entry size of a table (section 12.3). -/
def entrySize : Nat → Nat
  | 1 => 33
  | 2 => 22
  | 3 => 2
  | 4 => 4
  | 5 => 6
  | 6 => 33
  | 7 => 26
  | 8 => 13
  | 9 => 19
  | 10 => 3
  | 11 => 14
  | _ => 0

/-- R173, check 5: the payload length a request of a code has (section 12.2). -/
def payloadSize (f : Bytes) : Nat :=
  match reqCode f with
  | 0x02 => reqCount f * entrySize (reqTable f)
  | 0x03 => 3
  | 0x05 => 9
  | 0x06 => 3
  | 0x07 => 1
  | 0x08 => 1
  | 0x09 => 1
  | 0x0A => 6
  | 0x0C => 1
  | _ => 0

/-! ## Responses (R174) -/

/-- The statuses, in the order of their codes. -/
inductive Status where
  | ok | accepted | partly | malformed | unknownRequest | badTable | badLine | badTag | duplicateTag | badAddress | busy
  | wrongState | queueFull | noTest | finishing | noWakeSource | eventsPending
  deriving DecidableEq, Repr

/-- Section 12.2: the code of a status. -/
def Status.code : Status → Nat
  | .ok => 0
  | .accepted => 1
  | .partly => 2
  | .malformed => 3
  | .unknownRequest => 4
  | .badTable => 5
  | .badLine => 6
  | .badTag => 7
  | .duplicateTag => 8
  | .badAddress => 9
  | .busy => 10
  | .wrongState => 11
  | .queueFull => 12
  | .noTest => 13
  | .finishing => 14
  | .noWakeSource => 15
  | .eventsPending => 16

/-- What an effect answers. -/
structure Reply where
  status : Status
  done : Nat := 0
  refused : Option Nat := none
  payload : Bytes := []
  role : CtlRole := .response
  deriving DecidableEq, Repr

/-- A management frame from the part: addressing, header and payload. -/
def mgmtFrame (dest src : BitVec 48) (code tag : Nat) (r : Reply) : Bytes :=
  beBytes 6 dest.toNat ++ beBytes 6 src.toNat ++ beBytes 2 mgmtType ++ beBytes 1 code ++ beBytes 2 tag ++
    beBytes 1 r.status.code ++ beBytes 1 r.done ++ beBytes 2 (r.refused.getD 0xFFFF) ++ beBytes 2 r.payload.length ++ r.payload

/-- R174: the response to a request, from the management address as it now stands. -/
def responseFrame (f : Bytes) (r : Reply) (s : State) : Bytes :=
  mgmtFrame (frameSource f) s.tables.mgmt.mgmtAddress (reqCode f) (reqTag f) r

/-- R98: the control queue has room. -/
def controlRoom (s : State) : Bool := s.uplink.control.length < Config.controlMax

/-- A frame joins the tail of the control queue. -/
def placeControl (c : CtlFrame) (s : State) : State :=
  s.setUplink { s.uplink with control := s.uplink.control ++ [c] }

/-! ## Notifications (R183, R184) -/

/-- Section 12.2: the notification frame; its first refused index is sent as absent. DEDUCED (assumption 44), unsafe. -/
def notificationFrame (s : State) : Bytes :=
  mgmtFrame s.tables.mgmt.stationAddress s.tables.mgmt.mgmtAddress 0x80 0 ⟨.ok, 0, none, notificationBytes s, .notification⟩

/-- R183, R184: a due notification, with room in the control queue and outside DORMANT, is built and placed, or the state becomes
IDLE where nothing is new or there is no station. -/
def buildNotification (s : State) : State :=
  if s.mgmt.notif = .due && controlRoom s && !s.dormant then
    if notifiable s.tables s.mgmt then
      (placeControl ⟨notificationFrame s, .notification⟩ s).setMgmt { s.mgmt with notif := .queued, last := s.mgmt.pending }
    else s.setMgmt { s.mgmt with notif := .idle }
  else s

/-! ## Processing (R172, R173) -/

/-- R173, checks 2 to 5, for a frame that holds the whole header: the status of the first check that fails. -/
def failedCheck (f : Bytes) : Option Status :=
  if reqLength f ≠ f.length - headerEnd then some .malformed
  else if kindOf f = .unknown then some (if reqCode f = 0x02 then .badTable else .unknownRequest)
  else if kindOf f = .readEntries ∧ tableRange (reqTable f) = none then some .badTable
  else if reqLength f ≠ payloadSize f then some .malformed
  else none

/-- R174: a reply's response frame joins the control queue. -/
def respond (f : Bytes) (r : Reply) (s : State) : State := placeControl ⟨responseFrame f r s, r.role⟩ s

/-- R98: the control queue is emptied, and the frames it holds are discarded. -/
def discardControl (s : State) : State := s.setUplink { s.uplink with control := [] }

/-- R172, R174: the response of a processed request joins the control queue; `s` is the state that the effect has left, `before` the one
it found. Where the request has handed on the DORMANT entry, which is a step of the Power Controller (R124), the frames of the
queue are discarded, and this response with them (R98, R104). DEDUCED (assumption 35), unsafe. -/
def respondAfter (before : State) (f : Bytes) (r : Reply) (s : State) : State :=
  let t := respond f r s
  if s.dormant && !before.dormant then discardControl t else t

/-- R173: a request that has left the request queue is checked and carried out. -/
def carryOut (f : Bytes) (effect : Bytes → State → State × Reply) (s : State) : State :=
  if f.length < headerEnd then raisePart .malformedRequest s
  else match failedCheck f with
    | some st => respond f { status := st } (if st = .malformed then raisePart .malformedRequest s else s)
    | none => let (s', r) := effect f s; respondAfter s f r s'

/-- R172: the request at the head of the queue, of the kind given, is processed when the control queue has room; a due notification
is placed first. DESIGN CHOICE (assumption 4), safe. DEDUCED (assumption 5), safe. -/
def processHead (k : ReqKind) (effect : Bytes → State → State × Reply) (s : State) : State :=
  match s.mgmt.requests with
  | [] => s
  | f :: rest =>
    if kindOf f = k && controlRoom s then
      let s1 := buildNotification s
      if controlRoom s1 then carryOut f effect (s1.setMgmt { s1.mgmt with requests := rest }) else s1
    else s

/-- A reply of a status alone. -/
def plainReply (st : Status) : Reply := { status := st }

/-- R179: a request that names a line in its payload's first byte. -/
def onLine (f : Bytes) (s : State) (act : LineNo → State × Reply) : State × Reply :=
  match lineOf (field (reqPayload f) 0 1) with
  | some l => act l
  | none => (s, plainReply .badLine)

end Sys2Proof.Machine
end

