-- ==== Sys2Proof/Machine/ImageCommands.lean ====
section
/-! DEFINITION. The commands of an image save (section 11.3): SAVE_IMAGE, SAVE_ERASE_OR_PROGRAM_DONE, SAVE_READBACK_DONE and
SAVE_TIMEOUT. -/

namespace Sys2Proof.Machine

/-- R188: the image a save builds. -/
def builtImage (s : State) : Image := ⟨min 65535 (s.image.count + 1), s.tables⟩

/-- R188: a Save Image request; the erase is commanded at once. DEDUCED (assumption 20), safe. -/
def saveImage (_f : Bytes) (s : State) : State × Reply :=
  if s.image.phase ≠ .idle then (s, plainReply .busy)
  else
    ((s.setImage { s.image with phase := .erasing, building := some (builtImage s), timer := 0, region := .partly }).emit .flashErase,
      plainReply .accepted)

/-- SAVE_IMAGE (R188). -/
def execSaveImage (s : State) : Answer := onRun (processHead .saveImage saveImage) s

/-- R188: the erase, or the programming, is done, and the next flash operation begins. -/
def nextFlashStep (s : State) : State :=
  match s.image.phase, s.image.building with
  | .erasing, some i => (s.setImage { s.image with phase := .programming }).emit (.flashProgram i)
  | .programming, some i =>
    (s.setImage { s.image with phase := .readingBack, region := .programmed i }).emit .flashReadBack
  | _, _ => s

/-- SAVE_ERASE_OR_PROGRAM_DONE (R188). -/
def execSaveEraseOrProgramDone (s : State) : Answer := onRun nextFlashStep s

/-- R189: the save ends in failure. -/
def failSave (s : State) : State :=
  raisePart .imageFailed (s.setImage { s.image with phase := .idle, building := none, timer := 0 })

/-- R188: the save ends in success. -/
def endSave (i : Image) (s : State) : State :=
  raisePart .imageSaved (s.setImage { s.image with phase := .idle, building := none, timer := 0, count := i.count })

/-- R188, R189: the read-back is compared with the image built. -/
def judgeReadback (data : Bytes) (s : State) : State :=
  match s.image.phase, s.image.building with
  | .readingBack, some i => if data = i.bytes then endSave i s else failSave s
  | _, _ => s

/-- SAVE_READBACK_DONE (R188, R189). -/
def execSaveReadbackDone (data : Bytes) (s : State) : Answer := onRun (judgeReadback data) s

/-- R189: a flash operation of the save is not complete within 3000 ms. DESIGN CHOICE (assumption 2), safe. -/
def saveLate (s : State) : Bool := s.image.phase ≠ .idle && Config.saveLimitMs ≤ s.image.timer

/-- SAVE_TIMEOUT (R189). -/
def execSaveTimeout (s : State) : Answer := onRun (fun s => if saveLate s then failSave s else s) s

end Sys2Proof.Machine
end

