-- ==== Sys2Proof/Machine/LineCommands.lean ====
section
/-! DEFINITION. The commands of the line links (chapters 1 to 3): ENERGY_REPORT, LOS_REPORT, PAGE_RX, FRAME_UP, READY,
LINK_SILENCE_TIMEOUT, BACKOFF_END, IDLE_EXPIRY and PAGE_TIMEOUT. -/

namespace Sys2Proof.Machine

/-! ## The link (R14 to R16) -/

/-- A change of one link. -/
def State.modLink (s : State) (k : LinkNo) (f : Link → Link) : State := s.setLinks (s.links.set k (f s.links[k]))

/-- R16: a line's transceiver is told its mode again; for a TESTING line RELEASE_FOR_TEST is sent again in its place. -/
def resendMode (l : LineNo) (s : State) : State :=
  if (s.line l).state = .testing then s.emit (.releaseForTest l) else s.emit (.lineMode l (s.line l).mode)

/-- R15, R16: a message has arrived on a link: its silence timer becomes 0, and a LOST link returns to UP. -/
def linkHeard (k : LinkNo) (s : State) : State :=
  let s1 := s.modLink k fun _ => ⟨true, 0⟩
  if s.links[k].up then s1 else forLines (linesOf k) resendMode s1

/-- R14 to R16: a message that names a line is heard on its link, and is judged for that line where the link serves it. -/
def lineMessage (k : LinkNo) (n : Nat) (act : LineNo → State → State) (s : State) : State :=
  match servedLine k n with
  | some l => act l (linkHeard k s)
  | none => linkHeard k s

/-- R8: an ENERGY report may be taken: LISTENING, at the threshold, with no backoff and no entry held. -/
def energyTaken (l : LineNo) (level : Nat) (s : State) : Bool :=
  (s.line l).state = .listening && s.tables.power.energyThreshold ≤ level && (s.line l).backoff = 0 && (waitKind s l).isNone

/-- R8, R126: an ENERGY report is a wake candidate: DORMANT, from a PARKED class-0 line, at the threshold. -/
def energyWakes (l : LineNo) (level : Nat) (s : State) : Bool :=
  s.dormant && (s.line l).state = .parked && (s.service l).shedClass = 0 && s.tables.power.energyThreshold ≤ level

/-- R8: an ENERGY report for a line. -/
def judgeEnergy (level : Nat) (l : LineNo) (s : State) : State :=
  if energyTaken l level s then requestTrain l s
  else if energyWakes l level s then wakeEvent .energy (lineNumber l) s
  else s

/-! ## The messages -/

/-- ENERGY_REPORT (R8). -/
def execEnergyReport (k : LinkNo) (line level : Nat) (s : State) : Answer :=
  onRun (lineMessage k line (judgeEnergy level)) s

/-- LOS_REPORT (R13). -/
def execLosReport (k : LinkNo) (line : Nat) (s : State) : Answer :=
  onRun (lineMessage k line lineLos) s

/-- PAGE_RX (R32, R36). -/
def execPageRx (k : LinkNo) (line : Nat) (page : RawPage) (s : State) : Answer :=
  onRun (lineMessage k line fun l => deliverPage l page) s

/-- FRAME_UP (R53 to R56). -/
def execFrameUp (k : LinkNo) (line : Nat) (frame : Bytes) (errored : Bool) (s : State) : Answer :=
  onRun (lineMessage k line fun l => judgeUp l frame errored) s

/-- READY (R62); a count of 0 is ignored. -/
def execReady (k : LinkNo) (line count : Nat) (s : State) : Answer :=
  onRun (lineMessage k line fun l s => if count = 0 then s else readyCredit l count s) s

/-! ## The timers -/

/-- R15: a link's silence has lasted 100 ms in UP. DESIGN CHOICE (assumption 2), safe. -/
def silenceDue (k : LinkNo) (s : State) : Bool := s.links[k].up && Config.silenceMs ≤ s.links[k].silence

/-- R62: a line's READY credit becomes 0. -/
def clearReady (l : LineNo) (s : State) : State := s.modLine l fun x => { x with ready := 0 }

/-- R15, R62: a link becomes LOST: the READY credits of its lines become 0, and each line is treated as having reported LOS. -/
def loseLink (k : LinkNo) (s : State) : State :=
  let s1 := s.modLink k fun x => { x with up := false }
  forLines (linesOf k) lineLos (forLines (linesOf k) clearReady s1)

/-- LINK_SILENCE_TIMEOUT (R15). -/
def execLinkSilenceTimeout (k : LinkNo) (s : State) : Answer :=
  onRun (fun s => if silenceDue k s then loseLink k s else s) s

/-- BACKOFF_END (R9): the tick has counted the backoff to 0; its end requests nothing. DEDUCED (assumption 3), safe. -/
def execBackoffEnd (_line : LineNo) (s : State) : Answer := onRun (fun s => s) s

/-- R18: a line's idle timer has expired. DESIGN CHOICE (assumption 2), safe. DESIGN CHOICE (assumption 21), unsafe. -/
def expireIdle (l : LineNo) (s : State) : State :=
  if (s.line l).state = .active && (s.line l).idle = .expired then
    if mayIdle s l then enterIdleLow l s else s.modLine l fun x => { x with idle := .stopped }
  else s

/-- IDLE_EXPIRY (R18). -/
def execIdleExpiry (l : LineNo) (s : State) : Answer := onRun (expireIdle l) s

/-- PAGE_TIMEOUT (R37). -/
def execPageTimeout (l : LineNo) (s : State) : Answer := onRun (expirePage l) s

end Sys2Proof.Machine
end

