-- ==== Sys2Proof/Machine/ManagementCommands.lean ====
section
/-! DEFINITION. The other requests (R179) and the notifications (R183): READ_COUNTERS, READ_EVENTS, CLEAR_EVENTS, REQUEST_TEST,
CANCEL_TEST, UNBLOCK_LINE, FORCE_RETRAIN, SET_TIME, ENTER_DORMANT, RESTART, NOTIFICATION_BUILD and HOLDOFF_END. -/

namespace Sys2Proof.Machine

/-! ## Counters and events -/

/-- R27, R68: a Read Counters request; with the clear option the counters returned, and no others, are cleared. -/
def readCounters (f : Bytes) (s : State) : State × Reply :=
  let first := field (reqPayload f) 0 1
  let count := field (reqPayload f) 1 1
  let asked := ((List.range count).map fun i => first + i).takeWhile fun n => n ≤ 48
  let r := cutPayload Config.payloadMax (asked.map (countersOf s))
  let s' := if fieldYes (reqPayload f) 2 then (asked.take r.2).foldl (fun s n => clearCounters n s) s else s
  (s', { status := if r.2 < count then .partly else .ok, done := r.2, payload := r.1 })

/-- R182: a Read Events request. -/
def readEvents (_f : Bytes) (s : State) : State × Reply := (s, { status := .ok, payload := readEventsBytes s })

/-- R182: a Clear Events request. -/
def clearEvents (f : Bytes) (s : State) : State × Reply :=
  let ks : KindSet := BitVec.ofNat 20 (field (reqPayload f) 0 3)
  let ls : LineSet := BitVec.ofNat 48 (field (reqPayload f) 3 6)
  (s.setMgmt { s.mgmt with pending := s.mgmt.pending.without ks ls, last := s.mgmt.last.without ks ls }, plainReply .ok)

/-! ## Tests and lines -/

/-- R130: a Request Test request. -/
def requestTest (f : Bytes) (s : State) : State × Reply :=
  onLine f s fun l =>
    let r := judgeTest { line := l, origins := onDemand, steps := BitVec.ofNat 4 (field (reqPayload f) 1 1),
                         force := fieldYes (reqPayload f) 2, tag := some (reqTag f) } s
    (r.1, plainReply (match r.2 with
      | .wrongState => .wrongState
      | .full => .queueFull
      | .merged => .ok
      | .joined => .ok))

/-- R147: a Cancel Test request. -/
def cancelTest (f : Bytes) (s : State) : State × Reply :=
  onLine f s fun l =>
    if (queuedTest s l).isSome then (cancelQueued l s, plainReply .ok)
    else if isTestLine s l then
      if testRunning s then (cancelCurrent s, plainReply .ok) else (s, plainReply .finishing)
    else (s, plainReply .noTest)

/-- R146: a release retry is started in FAULT, or one is running. -/
def retryRelease (t : CurrentTest) (s : State) : State × Reply :=
  if t.retry then (s, plainReply .busy)
  else
    let t1 := { t with retry := true, stageTimer := s.tables.test.restoreMs }
    ((s.setTest { s.test with current := some t1 }).emit (.release (some t.req.line)), plainReply .accepted)

/-- R22: a BLOCKED line leaves BLOCKED. -/
def unblock (l : LineNo) (s : State) : State := if (s.service l).enabled then returnParked l s else enterDown l s

/-- R22, R146: an Unblock Line request. -/
def unblockLine (f : Bytes) (s : State) : State × Reply :=
  onLine f s fun l =>
    if (s.line l).state ≠ .blocked then (s, plainReply .wrongState)
    else if isFaultLine s l then
      match s.test.current with
      | some t => retryRelease t s
      | none => (s, plainReply .wrongState)
    else (unblock l s, plainReply .ok)

/-- R20: a Force Retrain request. R99, R101: a departure that ends the transmission is followed by the arbiter's choice before the
response joins the control queue. DEDUCED (assumption 45), safe. -/
def forceRetrain (f : Bytes) (s : State) : State × Reply :=
  onLine f s fun l =>
    match (s.line l).state with
    | .active => (chooseFrame (retrainInService l s), plainReply .ok)
    | .idleLow => (chooseFrame (retrainInService l s), plainReply .ok)
    | .listening =>
      let s1 := s.modLine l fun x => { x with backoff := 0 }
      (if (waitKind s1 l).isNone then requestTrain l s1 else s1, plainReply .ok)
    | .training => (retrainTraining l s, plainReply .ok)
    | .down => (s, plainReply .wrongState)
    | .parked => (s, plainReply .wrongState)
    | .testing => (s, plainReply .wrongState)
    | .blocked => (s, plainReply .wrongState)

/-! ## Time, DORMANT, restart -/

/-- R165: a Set Time request. -/
def setTimeTo (f : Bytes) (s : State) : State × Reply :=
  (s.setTime { s.time with now := field (reqPayload f) 0 6 }, plainReply .ok)

/-- R122: an Enter Dormant request. -/
def enterDormant (_f : Bytes) (s : State) : State × Reply :=
  if s.power.entryPending then (s, plainReply .busy)
  else if !wakeArmed s.tables then (s, plainReply .noWakeSource)
  else if s.mgmt.pending.any then (s, plainReply .eventsPending)
  else (s.setPower { s.power with entryPending := true, entryTimer := 0 }, { status := .ok, role := .dormantResponse })

/-- R190: the kind a Restart payload names. -/
def restartKind (f : Bytes) : RestartKind := if fieldYes (reqPayload f) 0 then .cold else .warm

/-- R187: a Restart request. -/
def requestRestart (f : Bytes) (s : State) : State × Reply :=
  match s.mgmt.restartPending with
  | none =>
    (s.setMgmt { s.mgmt with restartPending := some (restartKind f), restartTimer := 0 }, { status := .ok, role := .restartResponse })
  | some k =>
    (s.setMgmt { s.mgmt with restartPending := some (if k = .cold then .cold else restartKind f) }, plainReply .ok)

/-! ## The commands -/

/-- READ_COUNTERS (R27, R68). -/
def execReadCounters (s : State) : Answer := onRun (processHead .readCounters readCounters) s

/-- READ_EVENTS (R182). -/
def execReadEvents (s : State) : Answer := onRun (processHead .readEvents readEvents) s

/-- CLEAR_EVENTS (R182). -/
def execClearEvents (s : State) : Answer := onRun (processHead .clearEvents clearEvents) s

/-- REQUEST_TEST (R130). -/
def execRequestTest (s : State) : Answer := onRun (processHead .requestTest requestTest) s

/-- CANCEL_TEST (R147). -/
def execCancelTest (s : State) : Answer := onRun (processHead .cancelTest cancelTest) s

/-- UNBLOCK_LINE (R22, R146). -/
def execUnblockLine (s : State) : Answer := onRun (processHead .unblockLine unblockLine) s

/-- FORCE_RETRAIN (R20). -/
def execForceRetrain (s : State) : Answer := onRun (processHead .forceRetrain forceRetrain) s

/-- SET_TIME (R165). -/
def execSetTime (s : State) : Answer := onRun (processHead .setTime setTimeTo) s

/-- ENTER_DORMANT (R122). -/
def execEnterDormant (s : State) : Answer := onRun (processHead .enterDormant enterDormant) s

/-- RESTART (R187). -/
def execRestart (s : State) : Answer := onRun (processHead .restart requestRestart) s

/-- NOTIFICATION_BUILD (R183, R184). -/
def execNotificationBuild (s : State) : Answer := onRun buildNotification s

/-- R183: the holdoff has run out. DESIGN CHOICE (assumption 2), safe. -/
def endHoldoff (s : State) : State :=
  if s.mgmt.notif = .holdoff && s.mgmt.holdoff = 0 then
    s.setMgmt { s.mgmt with notif := if notifiable s.tables s.mgmt then .due else .idle }
  else s

/-- HOLDOFF_END (R183). -/
def execHoldoffEnd (s : State) : Answer := onRun endHoldoff s

end Sys2Proof.Machine
end

