-- ==== Sys2Proof/Machine/StartCommands.lean ====
section
/-! DEFINITION. The commands of start and restart (chapter 11): COLD_START, IMAGE_LOAD_DONE, IMAGE_READ_TIMEOUT, RESET_N_LOW,
WARM_RESTART and RESTART_FALLBACK. -/

namespace Sys2Proof.Machine

/-- COLD_START (R185, stage 1): power comes on, whatever stood before; the load of the keep image begins.
DESIGN CHOICE (assumption 9), unsafe. -/
def execColdStart (straps : BitVec 4) (feedOk : Bool) (s : State) : Answer :=
  .next (coldStart ⟨feedOk, straps⟩ (opened s))

/-- IMAGE_LOAD_DONE (R185, R186): the read of the image ends within its time, in the load of a cold start. -/
def execImageLoadDone (data : Bytes) (s : State) : Answer :=
  if s.stage = .load then .next (closed (endLoad (some data) (opened s))) else .next (opened s)

/-- IMAGE_READ_TIMEOUT (R186): the flash has not answered in time, so the image is bad. -/
def execImageReadTimeout (s : State) : Answer :=
  if s.stage = .load then .next (closed (endLoad none (opened s))) else .next (opened s)

/-- RESET_N_LOW (R187): the part takes its reset values and holds them until the pin returns high.
DESIGN CHOICE (assumption 9), unsafe. -/
def execResetNLow (s : State) : Answer :=
  if s.stage = .run then .next (warmValues (opened s)) else .next (opened s)

/-- WARM_RESTART (R187): RESET_N returns high after at least 1 ms low. DESIGN CHOICE (assumption 9), unsafe. -/
def execWarmRestart (feedOk : Bool) (s : State) : Answer :=
  if s.stage = .load then .next (opened s)
  else .next (closed (warmRestart { s.pins with feedOk := feedOk } (opened s)))

/-- R187: the response of the first Restart request has not left within 100 ms. DESIGN CHOICE (assumption 2), safe. -/
def restartOverdue (s : State) : Bool := s.mgmt.restartPending.isSome && Config.fallbackMs ≤ s.mgmt.restartTimer

/-- RESTART_FALLBACK (R187): the restart is made without waiting any longer. -/
def execRestartFallback (s : State) : Answer :=
  onRun (fun s => if restartOverdue s then s.setNotes { s.notes with restart := true } else s) s

end Sys2Proof.Machine
end

