-- ==== Sys2Proof/Machine/SupplyCommands.lean ====
section
/-! DEFINITION. The commands of the supply (chapter 6): FEED_SETTLED, POLL_START, POLL_RESULT, POLL_TIMEOUT, ENTRY_FALLBACK and
BUTTON_PRESS. -/

namespace Sys2Proof.Machine

/-- FEED_SETTLED (R107): the settle count has reached feed_settle_ms. -/
def execFeedSettled (s : State) : Answer := onRun (fun s => if s.power.settleDue then settleFeed s else s) s

/-- R108: the next poll is due. DESIGN CHOICE (assumption 2), safe. -/
def pollDue (s : State) : Bool := !s.power.polling && Config.pollMs ≤ s.power.pollTimer

/-- POLL_START (R108). -/
def execPollStart (s : State) : Answer := onRun (fun s => if pollDue s then startPoll s else s) s

/-- POLL_RESULT (R108): a poll in flight ends with a reading, or unacknowledged. -/
def execPollResult (reading : Option Int) (s : State) : Answer :=
  onRun (fun s => if s.power.polling then endPoll reading s else s) s

/-- R108: a poll has not completed within 50 ms. DESIGN CHOICE (assumption 2), safe. -/
def pollLate (s : State) : Bool := s.power.polling && Config.pollLimitMs ≤ s.power.pollTimer

/-- POLL_TIMEOUT (R108). -/
def execPollTimeout (s : State) : Answer := onRun (fun s => if pollLate s then endPoll none s else s) s

/-- R122: the response of an accepted Enter Dormant has not left within 100 ms. DESIGN CHOICE (assumption 2), safe. -/
def entryOverdue (s : State) : Bool := s.power.entryPending && Config.fallbackMs ≤ s.power.entryTimer

/-- ENTRY_FALLBACK (R122). -/
def execEntryFallback (s : State) : Answer := onRun (fun s => if entryOverdue s then pendingEntry s else s) s

/-- BUTTON_PRESS (R126). -/
def execButtonPress (s : State) : Answer := onRun (wakeEvent .button 0) s

end Sys2Proof.Machine
end

