-- ==== Sys2Proof/Machine/Tables.lean ====
section
/-! DEFINITION. Write Entries (R177) with what each table does with a stored entry: Service (R2, R5, R6, R21), Profile (R31), Profile
Settings (R30), Forwarding (R64), Uplink Settings (R72), Power (R106, R113), Test (R161), Time (R162, R164), Alarm (R167), Event
Enable (R180) and Management Settings (R178); and Read Entries (R176). -/

namespace Sys2Proof.Machine

/-! ## The loop of a write (R177) -/

/-- What a table does with an entry inside it: the state after, and the refusal's status where it is refused. -/
abbrev StoreEntry := Nat → Bytes → State → State × Option Status

/-- R177: the entries of a write in turn. R99, R101: the transmit arbiter chooses as soon as an entry has taken effect, which may
have ended a transmission. DEDUCED (assumption 45), safe. -/
def writeLoop (table : Nat) (store : StoreEntry) : List (Nat × Bytes) → Nat → Bool → State → State × Reply
  | [], done, dropped, s => (s, { status := if dropped then .partly else .ok, done := done })
  | (i, b) :: es, done, dropped, s =>
    if insideTable table i then
      match store i b s with
      | (s', none) => writeLoop table store es (done + 1) dropped (chooseFrame s')
      | (s', some st) => (s', { status := st, done := done, refused := some i })
    else writeLoop table store es done true s

/-- The entries a write carries, with their indices. -/
def writeEntries (f : Bytes) : List (Nat × Bytes) :=
  (List.range (reqCount f)).map fun i => (reqFirst f + i, entryAt (reqPayload f) 0 (entrySize (reqTable f)) i)

/-- R177: a Write Entries request, refused while a save is in flight. -/
def writeTable (store : StoreEntry) (f : Bytes) (s : State) : State × Reply :=
  if s.image.phase ≠ .idle then (s, plainReply .busy)
  else writeLoop (reqTable f) store (writeEntries f) 0 false s

/-- An entry stored without refusal. -/
def storeEntry (f : Nat → Bytes → State → State) : StoreEntry := fun i b s => (f i b s, none)

/-! ## Service Table -/

/-- R2: the effects of the fields that change no state. -/
def serviceFields (l : LineNo) (old new : ServiceEntry) (s : State) : State :=
  let s1 := s.modLine l fun x => { x with credit := min new.burst x.credit }
  let s2 := if new.shedClass = old.shedClass then s1 else reclassWait l new.shedClass s1
  if (new.weight ≠ old.weight || new.guarantee ≠ old.guarantee) && (s2.line l).inService then triggerReshare s2 else s2

/-- R5, R6: the effect of a change of enabled. -/
def serviceEnabled (l : LineNo) (old new : ServiceEntry) (s : State) : State :=
  if new.enabled = old.enabled then s else if new.enabled then enableLine l s else disableLine l s

/-- R21: the effect of a change of allowed_profiles. -/
def serviceAllowed (l : LineNo) (old new : ServiceEntry) (s : State) : State :=
  if new.allowed = old.allowed then s
  else if (s.line l).state = .training then retrainTraining l s
  else match (s.line l).running with
    | some p => if (s.line l).inService && !mem new.allowed p then retrainInService l s else s
    | none => s

/-- R99: a write that sets borrow is a moment at which the transmit arbiter may choose. DEDUCED (assumption 45), safe. -/
def serviceBorrow (old new : ServiceEntry) (s : State) : State := if new.borrow && !old.borrow then chooseFrame s else s

/-- R1, R2, R99: a Service entry is stored, with the field effects first and the state effect second.
DEDUCED (assumption 19), safe. -/
def storeService (l : LineNo) (new : ServiceEntry) (s : State) : State :=
  let old := s.service l
  let s1 := s.setTables { s.tables with service := s.tables.service.set l new }
  serviceAllowed l old new (serviceEnabled l old new (serviceBorrow old new (serviceFields l old new s1)))

/-! ## Profile Table -/

/-- R48: a write to a profile concerns the exchange of a TRAINING line; `s` holds the entry as written. -/
def concerns (p : ProfileNo) (s : State) (l : LineNo) : Bool :=
  (s.line l).state = .training &&
    ((match (s.line l).exchange with | some x => mem x.advertised p | none => false) || advertises s l p)

/-- R31, step 3: the needs of the wait entries are cleared, and a scan follows where one was (R118). -/
def clearNeeds (s : State) : State :=
  let s1 := s.setPower { s.power with wait := s.power.wait.map fun e => { e with need := none } }
  if s.power.wait.any fun e => e.need.isSome then noteScan s1 else s1

/-- R31: a Profile Table entry is stored, with its effects in turn: step 2 is taken of the lines that train when step 1 is done. -/
def storeProfile (p : ProfileNo) (new : Profile) (s : State) : State :=
  if new = s.profile p then s
  else
    let s0 := s.setTables { s.tables with profiles := s.tables.profiles.set p new }
    let s1 := forLines (allLines.filter fun l => (s0.line l).inService && (s0.line l).running = some p) retrainInService s0
    let s2 := forLines (allLines.filter (concerns p s1)) retrainTraining s1
    triggerReshare (clearNeeds s2)

/-! ## The single-entry tables -/

/-- R30: page_ms is stored. -/
def storePageMs (ms : Nat) (s : State) : State := s.setTables { s.tables with pageMs := ms }

/-- R72: the Uplink Settings are stored; a change re-evaluates the effective capacity. -/
def storeUplinkSettings (new : UplinkSettings) (s : State) : State :=
  if new = s.tables.uplink then s else reevaluate (s.setTables { s.tables with uplink := new })

/-- R113: the costs of the lines in the states whose cost a write changed; a scan is due where any one of them falls.
DEDUCED (assumption 41), safe. -/
def recost (old new : PowerTable) (s : State) : State :=
  forLines allLines (fun l s =>
    let x := s.line l
    if x.state = .listening && new.listenMw ≠ old.listenMw then setCost l new.listenMw s
    else if x.state = .training && new.trainMw ≠ old.trainMw && x.exchange.all (fun e => e.chosen.isNone) then setCost l new.trainMw s
    else s) s

/-- R106: a threshold changed. -/
def thresholdsChanged (old new : PowerTable) : Bool :=
  new.cutoffMv ≠ old.cutoffMv || new.reserveMv ≠ old.reserveMv || new.recoverMv ≠ old.recoverMv

/-- R106: the Power Table is stored: the cost re-evaluations, then the mode evaluation, then one shed, then one scan. Before a
restart's first poll has ended it is stored and acts later (R111). A write by which no cost falls, no budget rises and nothing is shed
makes no scan. DESIGN CHOICE (assumption 48), unsafe. -/
def storePower (new : PowerTable) (s : State) : State :=
  let old := s.tables.power
  let s1 := recost old new (s.setTables { s.tables with power := new })
  let s2 := if thresholdsChanged old new then evaluateSupply s1 else s1
  if s2.power.awaiting || s2.dormant then s2
  else
    let s3 := shed s2
    let s4 := if budget s < budget s3 then noteScan s3 else s3
    if modeBudget new s.power.mode = modeBudget old s.power.mode then s4 else noteArbiter s4

/-- R161: the Test Table is stored. -/
def storeTest (new : TestTable) (s : State) : State := s.setTables { s.tables with test := new }

/-- R162, R164: the Time Settings are stored; a change of reference may change the reference in use, with no event. -/
def storeTimeSettings (new : TimeSettings) (s : State) : State :=
  let s1 := s.setTables { s.tables with time := new }
  if new.reference = s.tables.time.reference then s1 else useReference (wantedRef s1) s1

/-- R167: an Alarm Table entry is stored. -/
def storeAlarm (i : Fin 8) (new : Alarm) (s : State) : State :=
  s.setTables { s.tables with alarms := s.tables.alarms.set i new }

/-- R180: the enables are stored; a kind whose enable is no has no pending state and no last-notified state. -/
def storeEnables (new : KindSet) (s : State) : State :=
  let s1 := s.setTables { s.tables with eventEnable := new }
  s1.setMgmt { s1.mgmt with
    pending := s1.mgmt.pending.without (~~~new) (BitVec.allOnes 48)
    last := s1.mgmt.last.without (~~~new) (BitVec.allOnes 48) }

/-- R178, R183: the Management Settings are stored; a station to tell makes a notification due. -/
def storeMgmt (new : MgmtSettings) (s : State) : State :=
  let s1 := s.setTables { s.tables with mgmt := new }
  s1.setMgmt (becomeDue s1.tables s1.mgmt)

/-! ## One entry of each table, from its bytes -/

/-- An entry of a table indexed by `Fin n` from its first index. -/
def storeAt (n first : Nat) (store : Fin n → Bytes → State → State) : StoreEntry := fun i b s =>
  if h : i - first < n then (store ⟨i - first, h⟩ b s, none) else (s, none)

def serviceEntry : StoreEntry := storeAt 48 1 fun l b => storeService l (readService b)
def profileEntry : StoreEntry := storeAt 16 0 fun p b => storeProfile p (readProfile b)
def pageMsEntry : StoreEntry := storeEntry fun _ b => storePageMs (readPageMs b)
def uplinkEntry : StoreEntry := storeEntry fun _ b => storeUplinkSettings (readUplinkSettings b)
def powerEntry : StoreEntry := storeEntry fun _ b => storePower (readPower b)
def testEntry : StoreEntry := storeEntry fun _ b => storeTest (readTest b)
def timeEntry : StoreEntry := storeEntry fun _ b => storeTimeSettings (readTimeSettings b)
def alarmEntry : StoreEntry := storeAt 8 0 fun i b => storeAlarm i (readAlarm b)
def enableEntry : StoreEntry := storeEntry fun _ b => storeEnables (readEnables b)

/-- R64: a Forwarding Table entry is checked and stored, or refused. -/
def forwardEntry : StoreEntry := fun i b s =>
  let e := readForward b
  match checkForward s.tables.forwarding.toList i e with
  | .badLine => (s, some .badLine)
  | .badTag => (s, some .badTag)
  | .duplicateTag => (s, some .duplicateTag)
  | .stored =>
    if h : i < 192 then (s.setTables { s.tables with forwarding := s.tables.forwarding.set i e }, none) else (s, none)

/-- R178: the Management Settings are stored, or refused for an address that cannot be used. -/
def mgmtEntry : StoreEntry := fun _ b s =>
  let e := readMgmt b
  if usableAddress e.mgmtAddress then (storeMgmt e s, none) else (s, some .badAddress)

/-! ## Read Entries (R176) -/

/-- R176: the indices a read asks for that lie inside the table: from the first index on, none where that is outside.
DEDUCED (assumption 38), safe. -/
def readIndices (table first count : Nat) : List Nat :=
  ((List.range count).map fun i => first + i).takeWhile (insideTable table)

/-- R176: a Read Entries request. -/
def readTable (f : Bytes) (s : State) : State × Reply :=
  let r := cutPayload Config.payloadMax ((readIndices (reqTable f) (reqFirst f) (reqCount f)).map (readEntry s (reqTable f)))
  (s, { status := if r.2 < reqCount f then .partly else .ok, done := r.2, payload := r.1 })

end Sys2Proof.Machine
end

