-- ==== Sys2Proof/Machine/TableCommands.lean ====
section
/-! DEFINITION. The requests that read and write tables (R175 to R177): READ_ENTRIES, the eleven Write Entries rows, and
UNKNOWN_REQUEST. -/

namespace Sys2Proof.Machine

/-- READ_ENTRIES (R176). -/
def execReadEntries (s : State) : Answer := onRun (processHead .readEntries readTable) s

/-- WRITE_SERVICE (R1, R2). -/
def execWriteService (s : State) : Answer := onRun (processHead .writeService (writeTable serviceEntry)) s

/-- WRITE_PROFILE (R31). -/
def execWriteProfile (s : State) : Answer := onRun (processHead .writeProfile (writeTable profileEntry)) s

/-- WRITE_PROFILE_SETTINGS (R30). -/
def execWriteProfileSettings (s : State) : Answer := onRun (processHead .writeProfileSettings (writeTable pageMsEntry)) s

/-- WRITE_FORWARDING (R64). -/
def execWriteForwarding (s : State) : Answer := onRun (processHead .writeForwarding (writeTable forwardEntry)) s

/-- WRITE_UPLINK_SETTINGS (R72). -/
def execWriteUplinkSettings (s : State) : Answer := onRun (processHead .writeUplinkSettings (writeTable uplinkEntry)) s

/-- WRITE_POWER_TABLE (R106). -/
def execWritePowerTable (s : State) : Answer := onRun (processHead .writePowerTable (writeTable powerEntry)) s

/-- WRITE_TEST_TABLE (R161). -/
def execWriteTestTable (s : State) : Answer := onRun (processHead .writeTestTable (writeTable testEntry)) s

/-- WRITE_TIME_SETTINGS (R162). -/
def execWriteTimeSettings (s : State) : Answer := onRun (processHead .writeTimeSettings (writeTable timeEntry)) s

/-- WRITE_ALARM (R167). -/
def execWriteAlarm (s : State) : Answer := onRun (processHead .writeAlarm (writeTable alarmEntry)) s

/-- WRITE_EVENT_ENABLE (R180). -/
def execWriteEventEnable (s : State) : Answer := onRun (processHead .writeEventEnable (writeTable enableEntry)) s

/-- WRITE_MANAGEMENT_SETTINGS (R178). -/
def execWriteManagementSettings (s : State) : Answer := onRun (processHead .writeManagementSettings (writeTable mgmtEntry)) s

/-- UNKNOWN_REQUEST (R173): no request of this kind passes the checks, so the effect stands for none. -/
def execUnknownRequest (s : State) : Answer :=
  onRun (processHead .unknown fun _ s => (s, plainReply .unknownRequest)) s

end Sys2Proof.Machine
end

