-- ==== Sys2Proof/Machine/TestCommands.lean ====
section
/-! DEFINITION. The commands of the test bus (chapters 7 and 8): QUIET_TIMER_EXPIRY, CONNECT_CONFIRM, PREPARE_TIMEOUT,
MEASUREMENT_RESULT, MEASURE_TIMEOUT, RELEASE_CONFIRM, RESTORE_TIMEOUT and RETRY_TIMEOUT. -/

namespace Sys2Proof.Machine

/-- R137: the quiet timer has reached 0; the arbiter runs. DESIGN CHOICE (assumption 2), safe. -/
def expireQuiet (s : State) : State :=
  if s.test.quietDue then noteArbiter (s.setTest { s.test with quietDue := false }) else s

/-- QUIET_TIMER_EXPIRY (R137). -/
def execQuietTimerExpiry (s : State) : Answer := onRun expireQuiet s

/-- R140, R150: a CONNECT confirm for the test line in PREPARE is taken; otherwise it is ignored. -/
def judgeConnect (line : Nat) (s : State) : State :=
  match s.test.current with
  | none => s
  | some t => if s.test.bus = .prepare && lineNumber t.req.line = line then enterMeasure s else s

/-- CONNECT_CONFIRM (R140). -/
def execConnectConfirm (line : Nat) (s : State) : Answer := onRun (judgeConnect line) s

/-- The bus is in the state named and its stage timer has reached 0. DESIGN CHOICE (assumption 2), safe. -/
def stageDue (bus : BusState) (s : State) : Bool :=
  s.test.bus = bus && s.test.current.any fun t => t.stageTimer = 0

/-- R140: the prepare has timed out. -/
def expirePrepare (s : State) : State :=
  if stageDue .prepare s then enterRestore (modTest (setVerdict .abortedFault) s) else s

/-- PREPARE_TIMEOUT (R140). -/
def execPrepareTimeout (s : State) : Answer := onRun expirePrepare s

/-- MEASUREMENT_RESULT (R141, R150, R152). -/
def execMeasurementResult (line : Nat) (value : Measurement) (s : State) : Answer := onRun (judgeResult line value) s

/-- MEASURE_TIMEOUT (R142). -/
def execMeasureTimeout (s : State) : Answer := onRun (fun s => if stageDue .measure s then stepTimedOut s else s) s

/-- RELEASE_CONFIRM (R144, R146, R150). -/
def execReleaseConfirm (line : Nat) (s : State) : Answer := onRun (judgeRelease line) s

/-- R145: the restore has timed out. -/
def expireRestore (s : State) : State :=
  match s.test.current with
  | none => s
  | some t => if stageDue .restore s then enterFault t s else s

/-- RESTORE_TIMEOUT (R145). -/
def execRestoreTimeout (s : State) : Answer := onRun expireRestore s

/-- R146: a release retry has timed out. -/
def expireRetry (s : State) : State :=
  if stageDue .fault s then modTest (fun t => { t with retry := false }) s else s

/-- RETRY_TIMEOUT (R146). -/
def execRetryTimeout (s : State) : Answer := onRun expireRetry s

end Sys2Proof.Machine
end

