-- ==== Sys2Proof/Machine/TickCommands.lean ====
section
/-! DEFINITION. MILLISECOND_TICK (R163): cabinet time, every timer of the part (chapter 9), the credits (R92), and the alarms (R168,
R169). -/

namespace Sys2Proof.Machine

/-! ## Timers -/

/-- R17: the effective idle time; 0 is no limit. -/
def effectiveIdle (mode : Mode) (idleMs saveMs : Nat) : Nat :=
  if mode = .normal then idleMs
  else if idleMs = 0 then saveMs
  else if saveMs = 0 then idleMs
  else min idleMs saveMs

/-- R17, R18: the idle timer at a tick. DESIGN CHOICE (assumption 21), unsafe. -/
def tickIdle (limit : Nat) : IdleTimer → IdleTimer
  | .running ms => if limit ≠ 0 ∧ limit ≤ ms + 1 then .expired else .running (ms + 1)
  | t => t

/-- R37: the page timer at a tick; at the limit it waits for its expiry to be taken. -/
def tickExchange (x : Exchange) : Exchange := { x with timer := min x.limit (x.timer + 1) }

/-- R9, R17, R37, R92: a line at a tick. -/
def tickLine (sv : ServiceEntry) (mode : Mode) (saveMs : Nat) (x : Line) : Line :=
  { x with
    credit := min sv.burst (x.credit + x.allocation)
    idle := tickIdle (effectiveIdle mode sv.idleMs saveMs) x.idle
    backoff := if x.state = .listening then x.backoff - 1 else x.backoff
    exchange := x.exchange.map tickExchange }

/-- R107, R108, R122: the Power Controller's timers at a tick.
DESIGN CHOICE (assumption 21), unsafe. DESIGN CHOICE (assumption 37), safe. -/
def tickPower (pin : Bool) (settleMs : Nat) (p : PowerCtl) : PowerCtl :=
  let count := if pin = p.settled then 0 else min 60000 (p.settleCount + 1)
  { p with
    settleCount := count
    settleDue := pin ≠ p.settled && settleMs ≤ count
    pollTimer := satInc Config.pollMs p.pollTimer
    entryTimer := if p.entryPending then satInc Config.fallbackMs p.entryTimer else p.entryTimer }

/-- R139: the stage timer runs in PREPARE, in MEASURE, in RESTORE, and in FAULT while a retry runs. -/
def stageRuns (bus : BusState) (t : CurrentTest) : Bool :=
  match bus with
  | .idle => false
  | .prepare => true
  | .measure => true
  | .restore => true
  | .fault => t.retry

/-- R137, R140 to R146: the Test Controller's timers at a tick. -/
def tickTest (t : TestCtl) : TestCtl :=
  { t with
    quiet := t.quiet - 1
    quietDue := t.quietDue || t.quiet = 1
    current := t.current.map fun c => if stageRuns t.bus c then { c with stageTimer := c.stageTimer - 1 } else c }

/-- R183, R187: the Management Unit's timers at a tick. -/
def tickMgmt (m : Mgmt) : Mgmt :=
  { m with
    holdoff := if m.notif = .holdoff then m.holdoff - 1 else m.holdoff
    restartTimer := if m.restartPending.isSome then satInc Config.fallbackMs m.restartTimer else m.restartTimer }

/-- R189: the save's timer at a tick. -/
def tickImage (i : ImageStore) : ImageStore :=
  if i.phase = .idle then i else { i with timer := satInc Config.saveLimitMs i.timer }

/-- R163: cabinet time increases by 1, staying at the largest value, and the next millisecond starts. -/
def advanceTime (s : State) : State := startMillisecond (s.setTime { s.time with now := satInc Config.timeMax s.time.now })

/-- The tick is taken by every timer of the part and by the credits.
DEDUCED (assumption 3), safe. DESIGN CHOICE (assumption 37), safe. -/
def tickTimers (feedOk : Bool) (s : State) : State :=
  { s with
    pins := { s.pins with feedOk := feedOk }
    lines := Vector.ofFn fun l => tickLine (s.service l) s.power.mode s.tables.power.saveIdleMs (s.line l)
    links := s.links.map fun x => { x with silence := x.silence + 1 }
    uplink := { s.uplink with hold := s.uplink.hold - 1 }
    power := tickPower feedOk s.tables.power.feedSettleMs s.power
    test := tickTest s.test
    mgmt := tickMgmt s.mgmt
    image := tickImage s.image }

/-! ## Alarms (R168 to R170) -/

/-- R168: an entry fires. -/
def fires (a : Alarm) (now : Nat) : Bool := a.enabled && a.time ≤ now

/-- R168: a firing entry's own fields. -/
def firedAlarm (a : Alarm) (now : Nat) : Alarm :=
  if a.periodMs = 0 then { a with enabled := false }
  else
    let t := a.time + a.periodMs * ((now - a.time) / a.periodMs + 1)
    if Config.timeMax < t then { a with enabled := false } else { a with time := t }

/-- R170: the test window flag becomes OPEN. -/
def openWindow (s : State) : State :=
  if s.time.windowOpen then s else noteArbiter (s.setTime { s.time with windowOpen := true })

/-- R169: the action of a firing entry. -/
def alarmAction (i : Fin 8) (a : Alarm) (s : State) : State :=
  match a.action with
  | .wake => wakeEvent .alarm i.val s
  | .windowOpen => openWindow s
  | .windowClose => s.setTime { s.time with windowOpen := false }
  | .testLines => forLines (members a.lines) (fun l => requestOwn l scheduledOrigin a.steps) s

/-- R168: an entry is judged; what its action raises is acted on before the next entry is judged. DEDUCED (assumption 10), safe. -/
def judgeAlarm (s : State) (i : Fin 8) : State :=
  let a := s.tables.alarms[i]
  if fires a s.time.now then
    settle (alarmAction i a (s.setTables { s.tables with alarms := s.tables.alarms.set i (firedAlarm a s.time.now) }))
  else s

/-- R168: the alarms, in ascending index. -/
def judgeAlarms (s : State) : State := (List.finRange 8).foldl judgeAlarm s

/-- MILLISECOND_TICK (R163), with the level FEED_OK has at it (R107): the timers and the credits, the choice that a line made eligible
or the end of a hold allows (R97, R99), and then the alarms. While RESET_N is held low only cabinet time runs on (R187), and
in the load of a cold start no tick is counted (R185).
DESIGN CHOICE (assumptions 12 and 33), safe. DESIGN CHOICE (assumption 9), unsafe. -/
def execMillisecondTick (feedOk : Bool) (s : State) : Answer :=
  if s.stage = .held then .next (advanceTime (opened s))
  else onRun (fun s => judgeAlarms (chooseFrame (tickTimers feedOk (advanceTime s)))) s

end Sys2Proof.Machine
end

