-- ==== Sys2Proof/Machine/UplinkCommands.lean ====
section
/-! DEFINITION. The commands of the uplink (chapters 3 to 5): UPLINK_LINK_UP, UPLINK_LINK_DOWN, the marks of the recovered reference
(R164), RATE_REPORT, HOLD, HOLD_END, DOWNSTREAM_FRAME, REQUEST_ARRIVAL, TRANSMISSION_END and RESHARE_COMPLETION. -/

namespace Sys2Proof.Machine

/-! ## The link and the reference -/

/-- R70: the link is established. DEDUCED (assumption 26), safe. -/
def linkUp (s : State) : State :=
  if s.uplink.terminalOn && !s.uplink.up then
    reevaluate (followReference (raisePart .uplinkUp (s.setUplink { s.uplink with up := true })))
  else s

/-- R70, R97, R101: the link is lost: the hold ends, and the frame in transmission is abandoned.
DESIGN CHOICE (assumption 31), safe. -/
def linkDown (s : State) : State :=
  if s.uplink.up then
    abandonTransmission (reevaluate (followReference (raisePart .uplinkDown
      (s.setUplink { s.uplink with up := false, hold := 0 }))))
  else s

/-- UPLINK_LINK_UP (R70); a report that matches the state held changes nothing. -/
def execUplinkLinkUp (s : State) : Answer := onRun linkUp s

/-- UPLINK_LINK_DOWN (R70). -/
def execUplinkLinkDown (s : State) : Answer := onRun linkDown s

/-- R164: the terminal marks its recovered reference valid or not. -/
def markReference (valid : Bool) (s : State) : State := followReference (s.setUplink { s.uplink with refValid := valid })

/-- REFERENCE_MARKED_VALID (R164). -/
def execReferenceMarkedValid (s : State) : Answer := onRun (markReference true) s

/-- REFERENCE_MARKED_NOT_VALID (R164). -/
def execReferenceMarkedNotValid (s : State) : Answer := onRun (markReference false) s

/-! ## Frames received (R58, R59) -/

/-- R71: a reported rate is taken. -/
def takeRate (kbps : Nat) (s : State) : State :=
  reevaluate (s.setUplink { s.uplink with reported := min Config.rateMax kbps })

/-- R96: a hold time is taken. -/
def takeHold (ms : Nat) (s : State) : State := s.setUplink { s.uplink with hold := min Config.holdMax ms }

/-- R59, R190: a terminal frame, dropped when it is of another kind or too short for its field. -/
def takeTerminal (f : Bytes) (s : State) : State :=
  if f.length < 15 then s
  else if field f 14 1 = 1 then (if f.length < 19 then s else takeRate (field f 15 4) s)
  else if field f 14 1 = 2 then (if f.length < 17 then s else takeHold (field f 15 2) s)
  else s

/-- R171: a request joins the request queue, or is discarded when the queue holds 4. -/
def takeRequest (f : Bytes) (s : State) : State :=
  if s.mgmt.requests.length < Config.requestMax then s.setMgmt { s.mgmt with requests := s.mgmt.requests ++ [f] } else s

/-- R59: the frame is a management request to the part. -/
def isRequest (f : Bytes) (s : State) : Bool := frameDest f = s.tables.mgmt.mgmtAddress && frameType f = some mgmtType

/-- R58, R59: a frame received from the terminal. None is while the link is DOWN (R70). A frame of the terminal type goes to the port
whatever its destination, the management address among them, as row 2 of R59's table has it.
DEDUCED (assumption 6), safe. DEDUCED (assumption 36), unsafe. -/
def receiveFrame (f : Bytes) (s : State) : State :=
  if !s.uplink.up then s
  else if 1536 < f.length then s.setPool { s.pool with oversize := satInc 4294967295 s.pool.oversize }
  else if isRequest f s then takeRequest f s
  else if frameType f = some terminalType then takeTerminal f s
  else judgeDown f s

/-- RATE_REPORT (R71): the frame as received, classified by R58 and R59. -/
def execRateReport (frame : Bytes) (s : State) : Answer := onRun (receiveFrame frame) s

/-- HOLD (R96): the frame as received, classified by R58 and R59. -/
def execHold (frame : Bytes) (s : State) : Answer := onRun (receiveFrame frame) s

/-- DOWNSTREAM_FRAME (R60): the frame as received, classified by R58 and R59. -/
def execDownstreamFrame (frame : Bytes) (s : State) : Answer := onRun (receiveFrame frame) s

/-- REQUEST_ARRIVAL (R171): the frame as received, classified by R58 and R59. -/
def execRequestArrival (frame : Bytes) (s : State) : Answer := onRun (receiveFrame frame) s

/-! ## The transmitter and the share -/

/-- HOLD_END (R97): the tick has counted the hold timer to 0; the arbiter may choose at once, as at the end of every step.
DEDUCED (assumption 3), safe. -/
def execHoldEnd (s : State) : Answer := onRun (fun s => s) s

/-- TRANSMISSION_END (R101): the last byte of the frame in transmission is sent. -/
def execTransmissionEnd (s : State) : Answer := onRun endTransmission s

/-- R84: the reshare in flight completes. DESIGN CHOICE (assumption 2), safe. DESIGN CHOICE (assumption 13), unsafe. -/
def completeReshare (s : State) : State :=
  match s.share.flight with
  | some f => installShare f s
  | none => s

/-- RESHARE_COMPLETION (R84). -/
def execReshareCompletion (s : State) : Answer := onRun completeReshare s

end Sys2Proof.Machine
end

