-- ==== Sys2Proof/Machine/Dispatch.lean ====
section
/-! DEFINITION. One arm for each command: a direct call of its meaning. -/

namespace Sys2Proof.Machine

def exec (i : Instr) (s : State) : Host.Outcome State Fault Refusal :=
  match i with
  | .coldStart straps feedOk => Sys2Proof.Machine.execColdStart straps feedOk s
  | .imageLoadDone data => Sys2Proof.Machine.execImageLoadDone data s
  | .warmRestart feedOk => Sys2Proof.Machine.execWarmRestart feedOk s
  | .energyReport link line level => Sys2Proof.Machine.execEnergyReport link line level s
  | .losReport link line => Sys2Proof.Machine.execLosReport link line s
  | .pageRx link line page => Sys2Proof.Machine.execPageRx link line page s
  | .frameUp link line frame errored => Sys2Proof.Machine.execFrameUp link line frame errored s
  | .ready link line count => Sys2Proof.Machine.execReady link line count s
  | .linkSilenceTimeout link => Sys2Proof.Machine.execLinkSilenceTimeout link s
  | .backoffEnd line => Sys2Proof.Machine.execBackoffEnd line s
  | .idleExpiry line => Sys2Proof.Machine.execIdleExpiry line s
  | .pageTimeout line => Sys2Proof.Machine.execPageTimeout line s
  | .uplinkLinkUp => Sys2Proof.Machine.execUplinkLinkUp s
  | .uplinkLinkDown => Sys2Proof.Machine.execUplinkLinkDown s
  | .referenceMarkedValid => Sys2Proof.Machine.execReferenceMarkedValid s
  | .referenceMarkedNotValid => Sys2Proof.Machine.execReferenceMarkedNotValid s
  | .rateReport frame => Sys2Proof.Machine.execRateReport frame s
  | .hold frame => Sys2Proof.Machine.execHold frame s
  | .holdEnd => Sys2Proof.Machine.execHoldEnd s
  | .downstreamFrame frame => Sys2Proof.Machine.execDownstreamFrame frame s
  | .requestArrival frame => Sys2Proof.Machine.execRequestArrival frame s
  | .transmissionEnd => Sys2Proof.Machine.execTransmissionEnd s
  | .millisecondTick feedOk => Sys2Proof.Machine.execMillisecondTick feedOk s
  | .reshareCompletion => Sys2Proof.Machine.execReshareCompletion s
  | .feedSettled => Sys2Proof.Machine.execFeedSettled s
  | .pollStart => Sys2Proof.Machine.execPollStart s
  | .pollResult reading => Sys2Proof.Machine.execPollResult reading s
  | .pollTimeout => Sys2Proof.Machine.execPollTimeout s
  | .entryFallback => Sys2Proof.Machine.execEntryFallback s
  | .buttonPress => Sys2Proof.Machine.execButtonPress s
  | .quietTimerExpiry => Sys2Proof.Machine.execQuietTimerExpiry s
  | .connectConfirm line => Sys2Proof.Machine.execConnectConfirm line s
  | .prepareTimeout => Sys2Proof.Machine.execPrepareTimeout s
  | .measurementResult line value => Sys2Proof.Machine.execMeasurementResult line value s
  | .measureTimeout => Sys2Proof.Machine.execMeasureTimeout s
  | .releaseConfirm line => Sys2Proof.Machine.execReleaseConfirm line s
  | .restoreTimeout => Sys2Proof.Machine.execRestoreTimeout s
  | .retryTimeout => Sys2Proof.Machine.execRetryTimeout s
  | .notificationBuild => Sys2Proof.Machine.execNotificationBuild s
  | .holdoffEnd => Sys2Proof.Machine.execHoldoffEnd s
  | .readEntries => Sys2Proof.Machine.execReadEntries s
  | .writeService => Sys2Proof.Machine.execWriteService s
  | .writeProfile => Sys2Proof.Machine.execWriteProfile s
  | .writeProfileSettings => Sys2Proof.Machine.execWriteProfileSettings s
  | .writeForwarding => Sys2Proof.Machine.execWriteForwarding s
  | .writeUplinkSettings => Sys2Proof.Machine.execWriteUplinkSettings s
  | .writePowerTable => Sys2Proof.Machine.execWritePowerTable s
  | .writeTestTable => Sys2Proof.Machine.execWriteTestTable s
  | .writeTimeSettings => Sys2Proof.Machine.execWriteTimeSettings s
  | .writeAlarm => Sys2Proof.Machine.execWriteAlarm s
  | .writeEventEnable => Sys2Proof.Machine.execWriteEventEnable s
  | .writeManagementSettings => Sys2Proof.Machine.execWriteManagementSettings s
  | .readCounters => Sys2Proof.Machine.execReadCounters s
  | .readEvents => Sys2Proof.Machine.execReadEvents s
  | .clearEvents => Sys2Proof.Machine.execClearEvents s
  | .requestTest => Sys2Proof.Machine.execRequestTest s
  | .cancelTest => Sys2Proof.Machine.execCancelTest s
  | .unblockLine => Sys2Proof.Machine.execUnblockLine s
  | .forceRetrain => Sys2Proof.Machine.execForceRetrain s
  | .setTime => Sys2Proof.Machine.execSetTime s
  | .enterDormant => Sys2Proof.Machine.execEnterDormant s
  | .restart => Sys2Proof.Machine.execRestart s
  | .restartFallback => Sys2Proof.Machine.execRestartFallback s
  | .saveImage => Sys2Proof.Machine.execSaveImage s
  | .saveReadbackDone data => Sys2Proof.Machine.execSaveReadbackDone data s
  | .saveTimeout => Sys2Proof.Machine.execSaveTimeout s
  | .imageReadTimeout => Sys2Proof.Machine.execImageReadTimeout s
  | .saveEraseOrProgramDone => Sys2Proof.Machine.execSaveEraseOrProgramDone s
  | .resetNLow => Sys2Proof.Machine.execResetNLow s
  | .unknownRequest => Sys2Proof.Machine.execUnknownRequest s

end Sys2Proof.Machine
end

