-- ==== Sys2Proof/Machine/Step.lean ====
section
/-! DEFINITION. The step of the block: the command at the front of its queue is taken. -/

namespace Sys2Proof.Machine

/-- A step takes the command at the front of the queue and runs `exec` on the queue's rest; with no command waiting the part idles.
DESIGN CHOICE (assumption 1), unsafe. DESIGN CHOICE (assumption 34), safe. -/
def step (s : State) : Host.Outcome State Fault Refusal :=
  match s.pending with
  | [] => .next s
  | c :: rest => exec c { s with pending := rest }

/-- The state with the command a table word spells put at the front of the queue; no word of this table spells one. -/
def State.withFetchWord (s : State) (nbits w : Nat) : State :=
  match decodeTableWord nbits w with
  | some c => { s with pending := c :: s.pending }
  | none => s

end Sys2Proof.Machine
end

