-- ==== Sys2Proof/Safety.lean ====
section
/-! DEFINITION. What counts as a sound state of the part: the properties that every step keeps, in the terms the statements use. A run
is safe when each of its states has them. -/

namespace Sys2Proof.Machine

/-! ## The cells of the buffer pool (R49, R50) -/

/-- The cells that the two queues of a line hold. -/
def Line.held (x : Line) : Nat := depth x.upq + depth x.dnq

/-- R50: the free cells and the cells of the 96 queues make the pool. While a cold start loads its image, the queues are empty. -/
def CellsKept (s : State) : Prop :=
  s.pool.free + ((List.finRange 48).map fun l => (s.line l).held).sum = 3072 ∧ (s.stage = .load → s.pool.free = 3072)

/-! ## The tables (R1, R29, R30, R63, R72, R105, R160, R162, R167, R178) -/

/-- R1: every field lies in its range. -/
def ServiceEntry.InRange (e : ServiceEntry) : Prop :=
  e.upTag ≤ 4094 ∧ 1 ≤ e.weight ∧ e.weight ≤ 255 ∧ e.guarantee ≤ 1000000 ∧ 12288 ≤ e.burst ∧ e.burst ≤ 4194304 ∧
  16 ≤ e.upqCells ∧ e.upqCells ≤ 1024 ∧ 16 ≤ e.dnqCells ∧ e.dnqCells ≤ 1024 ∧
  (e.idleMs = 0 ∨ (1000 ≤ e.idleMs ∧ e.idleMs ≤ 600000)) ∧ e.shedClass ≤ 2 ∧ e.autoRetrains ≤ 255 ∧
  60 ≤ e.autoWindowS ∧ e.autoWindowS ≤ 86400 ∧ e.lineId ≤ 4294967295

/-- R29: every field lies in its range. -/
def Profile.InRange (e : Profile) : Prop :=
  e.downKbps ≤ 1000000 ∧ e.upKbps ≤ 1000000 ∧ e.trickleKbps ≤ e.upKbps ∧ e.reach ≤ 65535 ∧ e.maxAtten ≤ 1000 ∧
  e.activeMw ≤ 5000 ∧ e.idleMw ≤ e.activeMw

/-- R63, R64: a valid entry names a tag 1 to 4094 and a line 1 to 48; every entry lies in the range of its fields. -/
def Forward.InRange (e : Forward) : Prop :=
  e.tag ≤ 4095 ∧ e.line ≤ 48 ∧ (e.valid = true → 1 ≤ e.tag ∧ e.tag ≤ 4094 ∧ 1 ≤ e.line)

/-- R105: every field lies in its range, and the thresholds stand in their order. -/
def PowerTable.InRange (e : PowerTable) : Prop :=
  e.budgetNormal ≤ 65535 ∧ e.budgetHoldup ≤ 65535 ∧ e.budgetReserve ≤ 65535 ∧ e.listenMw ≤ 500 ∧ e.trainMw ≤ 5000 ∧
  e.energyThreshold ≤ 255 ∧ e.cutoffMv < e.reserveMv ∧ e.reserveMv ≤ e.recoverMv ∧ e.recoverMv ≤ 100000 ∧
  (e.saveIdleMs = 0 ∨ (1000 ≤ e.saveIdleMs ∧ e.saveIdleMs ≤ 600000)) ∧ 100 ≤ e.feedSettleMs ∧ e.feedSettleMs ≤ 60000 ∧
  1 ≤ e.promoteCells ∧ e.promoteCells ≤ 64

/-- R160: every field lies in its range. -/
def TestTable.InRange (e : TestTable) : Prop :=
  100 ≤ e.prepareMs ∧ e.prepareMs ≤ 10000 ∧ 100 ≤ e.measureMs ∧ e.measureMs ≤ 30000 ∧ 100 ≤ e.restoreMs ∧ e.restoreMs ≤ 10000 ∧
  e.quietMs ≤ 600000 ∧ 1 ≤ e.maxDefers ∧ e.maxDefers ≤ 7 ∧ 1 ≤ e.hazardMv ∧ e.hazardMv ≤ 200000 ∧ 1 ≤ e.openOhms ∧
  e.openOhms ≤ 9999999 ∧ 1 ≤ e.insulMinKohm ∧ e.insulMinKohm ≤ 9999999 ∧ 30 ≤ e.capPerKm ∧ e.capPerKm ≤ 80 ∧ e.testMw ≤ 5000

/-- R162: every field lies in its range. -/
def TimeSettings.InRange (e : TimeSettings) : Prop :=
  1000 ≤ e.localKhz ∧ e.localKhz ≤ 100000 ∧ e.localFrac ≤ 65535 ∧ 1000 ≤ e.uplinkKhz ∧ e.uplinkKhz ≤ 100000 ∧ e.uplinkFrac ≤ 65535

/-- R167: every field lies in its range. -/
def Alarm.InRange (e : Alarm) : Prop :=
  e.time ≤ 281474976710655 ∧ (e.periodMs = 0 ∨ (1000 ≤ e.periodMs ∧ e.periodMs ≤ 4294967295))

/-- Every entry of every table lies in its range. -/
def TablesInRange (t : Tables) : Prop :=
  (∀ l : LineNo, t.service[l].InRange) ∧ (∀ p : ProfileNo, t.profiles[p].InRange) ∧ 200 ≤ t.pageMs ∧ t.pageMs ≤ 2000 ∧
  (∀ i : Fin 192, t.forwarding[i].InRange) ∧
  t.uplink.pinned ≤ 10000000 ∧ 50 ≤ t.uplink.headroom ∧ t.uplink.headroom ≤ 100 ∧ t.uplink.hysteresis ≤ 50 ∧
  t.power.InRange ∧ t.test.InRange ∧ t.time.InRange ∧ (∀ i : Fin 8, t.alarms[i].InRange) ∧
  100 ≤ t.mgmt.holdoffMs ∧ t.mgmt.holdoffMs ≤ 60000

/-- R65: no two valid entries of the Forwarding Table hold the same tag. -/
def TagsDiffer (t : Vector Forward 192) : Prop :=
  ∀ i j : Fin 192, i ≠ j → t[i].valid = true → t[j].valid = true → t[i].tag ≠ t[j].tag

/-! ## The events (R180, R181) -/

/-- R181: a state of the event kinds that holds nothing of a kind whose enable is no. -/
def EventSet.Allowed (e : EventSet) (enables : KindSet) : Prop :=
  (∀ k : LineEvent, mem enables k.index = false → e.linesOfKind k = 0) ∧
  ∀ k : PartEvent, mem enables k.index = false → e.hasPart k = false

/-- The tables lie in their ranges, the Forwarding Table holds each tag once, the management address can be used, and nothing is
pending or last-notified of a kind whose enable is no. While a cold start loads its image, nothing is pending at all. -/
def TablesKept (s : State) : Prop :=
  TablesInRange s.tables ∧ TagsDiffer s.tables.forwarding ∧ usableAddress s.tables.mgmt.mgmtAddress = true ∧
  s.mgmt.pending.Allowed s.tables.eventEnable ∧ s.mgmt.last.Allowed s.tables.eventEnable ∧
  (s.stage = .load → s.mgmt.pending = {} ∧ s.mgmt.last = {})

/-! ## The power account (R112, R114) -/

/-- R114: committed power does not exceed the budget, with what this rests on: a line that draws no power has no cost; an ACTIVE line's cost,
and the cost reserved for one that is to be ACTIVE, covers the idle_mW of its profile (R18, R42); every line has a shed class (R1); the
test line is TESTING, and BLOCKED in FAULT (R138, R145); and in the load of a cold start, before a restart's first poll has ended, and
in DORMANT, no line is powered and no test commitment is held (R111, R124). -/
def PowerKept (s : State) : Prop :=
  committed s ≤ budget s ∧
  (∀ l : LineNo, (s.line l).powered = false → (s.line l).cost = 0) ∧
  (∀ l : LineNo, (s.line l).state = .active → ∃ p, (s.line l).running = some p ∧ (s.profile p).idleMw ≤ (s.line l).cost) ∧
  (∀ (l : LineNo) (x : Exchange) (p : ProfileNo) (k : Service), (s.line l).state = .training → (s.line l).exchange = some x →
    x.chosen = some (p, k) → mem x.advertised p = true ∧ (k = .active → (s.profile p).idleMw ≤ (s.line l).cost)) ∧
  (∀ p : ProfileNo, (s.profile p).idleMw ≤ (s.profile p).activeMw) ∧ (∀ l : LineNo, (s.service l).shedClass ≤ 2) ∧
  (∀ t : CurrentTest, s.test.current = some t →
    ((s.test.bus = .prepare ∨ s.test.bus = .measure ∨ s.test.bus = .restore) → (s.line t.req.line).state = .testing) ∧
    (s.test.bus = .fault → (s.line t.req.line).state = .blocked)) ∧
  ((s.stage = .load ∨ s.power.awaiting = true ∨ s.power.mode = .dormant) →
    (∀ l : LineNo, (s.line l).powered = false) ∧ s.power.testCommit = 0) ∧
  (s.stage = .load → s.test.current = none)

/-! ## The lines and the share (R3, R10, R11, R26, R33, R45, R62, R67, R77, R84, R92) -/

/-- R26: no counter stands above its maximum. -/
def Counters.Kept (c : Counters) : Prop :=
  c.framesUp ≤ 4294967295 ∧ c.framesDown ≤ 4294967295 ∧ c.dropsUp ≤ 65535 ∧ c.dropsDown ≤ 65535 ∧ c.crcErr ≤ 65535 ∧ c.los ≤ 65535 ∧
  c.retrains ≤ 65535

/-- A line in service runs a profile; a line out of service runs none, has no allocation, no frame in its queues and no READY credit (R11,
R62, R67); a line has an exchange while it trains (R33); the READY credit is 0 to 4 (R62); and the counters are within their widths (R26). -/
def Line.Kept (x : Line) : Prop :=
  (x.inService = true → ∃ p, x.running = some p) ∧
  (x.inService = false → x.running = none ∧ x.allocation = 0 ∧ x.upq = [] ∧ x.dnq = [] ∧ x.ready = 0) ∧
  (x.exchange.isSome = true ↔ x.state = .training) ∧ x.ready ≤ 4 ∧ x.counters.Kept

/-- R35, R45: the profile is valid, the line's Service entry allows it, and it reaches the estimated loop length where one is present. -/
def Usable (s : State) (l : LineNo) (p : ProfileNo) : Prop :=
  (s.profile p).valid = true ∧ mem (s.service l).allowed p = true ∧
  ∀ m : Nat, (s.line l).loopLength = some m → m ≤ (s.profile p).reach

/-- Every line is as its state has it, with its credit within burst_bits (R92); the profile a line runs can be used by it (R45), and so
can every profile that a line in training has advertised, the chosen one among them (R35, R48); the allocations and the spare make the
capacity snapshot (R77, R80, R84); and a reshare in flight counts no line twice, each with a weight of 1 or more (R81). -/
def LinesKept (s : State) : Prop :=
  (∀ l : LineNo, (s.line l).Kept ∧ (s.line l).credit ≤ (s.service l).burst) ∧
  (∀ (l : LineNo) (p : ProfileNo), (s.line l).running = some p → Usable s l p) ∧
  (∀ (l : LineNo) (x : Exchange), (s.line l).exchange = some x →
    (∀ p : ProfileNo, mem x.advertised p = true → Usable s l p) ∧
    ∀ (p : ProfileNo) (k : Service), x.chosen = some (p, k) → mem x.advertised p = true) ∧
  ((List.finRange 48).map fun l => (s.line l).allocation).sum + s.share.spare = s.share.snapshot ∧
  ∀ f : Flight, s.share.flight = some f → (f.lines.map ShareInput.line).Nodup ∧ ∀ i ∈ f.lines, 0 < i.weight

/-! ## The queues, the bus and the clock (R98, R100, R116, R129, R133, R139, R163, R171, R183) -/

/-- R116: an entry of this kind waits in the state of its line. -/
def WaitKind.matches (k : WaitKind) (x : LineState) : Prop :=
  match k with
  | .listen => x = .parked
  | .train => x = .listening
  | .promote => x = .idleLow

/-- R116: the Power Wait Queue is in its order, class and then stamp; it holds one entry a line at most, each of the kind its line's
state has; and it is empty in DORMANT. -/
def WaitsKept (s : State) : Prop :=
  (s.power.wait.Pairwise fun a b => a.cls < b.cls ∨ (a.cls = b.cls ∧ a.stamp < b.stamp)) ∧
  (s.power.wait.map WaitEntry.line).Nodup ∧ (s.power.wait.map WaitEntry.stamp).Nodup ∧
  (∀ e ∈ s.power.wait, e.stamp < s.power.stampCount ∧ e.kind.matches (s.line e.line).state) ∧
  s.power.stampCount ≤ 4294967295 ∧ (s.power.mode = .dormant → s.power.wait = [])

/-- R129, R133: the Test Queue is in its order, priority and then stamp; it holds 12 entries at most, one a line at most, and none for
a line that is DOWN, BLOCKED or TESTING. -/
def TestsKept (s : State) : Prop :=
  (s.test.queue.Pairwise fun a b => a.priority < b.priority ∨ (a.priority = b.priority ∧ a.stamp < b.stamp)) ∧
  s.test.queue.length ≤ 12 ∧ (s.test.queue.map TestReq.line).Nodup ∧ (s.test.queue.map TestReq.stamp).Nodup ∧
  (∀ e ∈ s.test.queue, e.stamp < s.test.stampCount ∧ (s.line e.line).state ≠ .down ∧ (s.line e.line).state ≠ .blocked ∧
    (s.line e.line).state ≠ .testing) ∧
  s.test.stampCount ≤ 4294967295

/-- R139: a line is TESTING only as the line of the current test, while the bus is in PREPARE, MEASURE or RESTORE; so one line is at
most. -/
def BusKept (s : State) : Prop :=
  ∀ l : LineNo, (s.line l).state = .testing →
    (s.test.bus = .prepare ∨ s.test.bus = .measure ∨ s.test.bus = .restore) ∧
    ∃ t : CurrentTest, s.test.current = some t ∧ t.req.line = l

/-- R183: the control queue holds one notification in QUEUED, and none in the other notification states. -/
def NoticeKept (s : State) : Prop :=
  (s.uplink.control.filter fun c => c.role = .notification).length = if s.mgmt.notif = .queued then 1 else 0

/-- The four queues of the part other than the lines' hold what they may, and the arbiter's positions are line numbers or 0 (R98, R100,
R116, R133, R171); the test line and the notification stand where the rules have them (R139, R183); cabinet time lies in its 48 bits
(R163); and while a cold start loads its image no line waits for power or for a test (R185). -/
def QueuesKept (s : State) : Prop :=
  WaitsKept s ∧ TestsKept s ∧ s.mgmt.requests.length ≤ 4 ∧ s.uplink.control.length ≤ 4 ∧
  s.uplink.eligiblePos ≤ 48 ∧ s.uplink.borrowPos ≤ 48 ∧ BusKept s ∧ NoticeKept s ∧ s.time.now ≤ 281474976710655 ∧
  (s.stage = .load → s.power.wait = [] ∧ s.test.queue = [])

/-- R163: a step that is not a cold start moves cabinet time by SET_TIME or by a millisecond at a tick, and in no other way. -/
def ClockRuns (s t : State) : Prop :=
  t.time.now = s.time.now ∨ t.stage = .load ∨ s.pending.head? = some .setTime ∨
    ((∃ b, s.pending.head? = some (.millisecondTick b)) ∧ t.time.now = s.time.now + 1)

/-- A step that makes a restart (R185, R187): one of its three commands, or the step that makes a requested one. -/
def Restarts (s t : State) : Prop :=
  (∃ a b, s.pending.head? = some (.coldStart a b)) ∨ (∃ b, s.pending.head? = some (.warmRestart b)) ∨
    s.pending.head? = some .resetNLow ∨ (s.mgmt.restartPending.isSome = true ∧ t.mgmt.restartPending = none)

/-- R183: while a holdoff runs no step but a restart leaves it, and its timer falls by one at a tick at most; so two notifications
are spaced by the holdoff. -/
def HoldoffRuns (s t : State) : Prop :=
  s.mgmt.notif = .holdoff → 0 < s.mgmt.holdoff → Restarts s t ∨
    (t.mgmt.notif = .holdoff ∧ (t.mgmt.holdoff = s.mgmt.holdoff ∨
      ((∃ b, s.pending.head? = some (.millisecondTick b)) ∧ t.mgmt.holdoff + 1 = s.mgmt.holdoff)))

end Sys2Proof.Machine
end

