-- ==== Sys2Proof/WellFormed.lean ====
section
/-! DEFINITION. The ranges the manual gives for what a command carries. A command outside them is not a message the part's
partners can send; its meaning is still total. -/

namespace Sys2Proof

/-- A message that names a line carries a line number of the part, 1 to 48 (R14). -/
def namesLine (line : Nat) : Bool := 1 ≤ line ∧ line ≤ 48

/-- What each command carries lies in its range. -/
def Instr.wellFormed : Instr → Bool
  | .energyReport _ line level => namesLine line && level ≤ 255          -- R8: a level 0..255
  | .losReport _ line => namesLine line
  | .pageRx _ line _ => namesLine line
  | .frameUp _ line _ _ => namesLine line
  | .ready _ line count => namesLine line && count ≤ 4                   -- R62: a count 1..4, and 0 is ignored
  | .connectConfirm line => namesLine line
  | .measurementResult line _ => namesLine line
  | .releaseConfirm line => namesLine line
  | .imageLoadDone data => data.length == Config.imageBytes              -- R186: the read of the 8192 bytes
  | .saveReadbackDone data => data.length == Config.imageBytes           -- R188: the 8192 bytes read back
  | .rateReport frame => 14 ≤ frame.length                               -- section 12.2: up to the frame type
  | .hold frame => 14 ≤ frame.length
  | .requestArrival frame => 14 ≤ frame.length                           -- section 12.2: up to the frame type
  | _ => true

end Sys2Proof
end

