-- ==== Sys2Proof/Certificates/Slice0/Obligations.lean ====
section
/-! DEFINITION. The statements for the provers. A command's statement gives the state it leaves: the state `s` taken as a step opens
it (`opened s`: nothing sent, nothing noted), with the changes written out, so that all that is not written is unchanged; and then
the end of the step, which is the transmit arbiter's choice (`chooseFrame`, stated by itself), or that choice after the scan and
the run of the test arbiter that are due (`finish`). Events are raised by `raiseLine` and `raisePart`, stated by themselves. -/

open Sys2Proof Sys2Proof.Machine

namespace Sys2Proof.Claims

/-! ## What the statements share -/

/-- The end of a step: the scan and the run of the test arbiter that were noted, then the transmit arbiter's choice. -/
def finish (u : State) : State := chooseFrame (settle u)

/-- The step taken at a message on the link of line `l` while that link is UP: the link's silence timer is 0 (R15). -/
def onLink (l : LineNo) (s : State) : State :=
  { opened s with links := s.links.set (linkOf l).val ⟨true, 0⟩ }

/-- The part runs, and the link of line `l` is UP. -/
def Hears (s : State) (l : LineNo) : Prop := s.stage = .run ∧ s.links[linkOf l].up = true

/-- The state with one line's record replaced. -/
def withLine (u : State) (l : LineNo) (x : Line) : State := { u with lines := u.lines.set l x }

/-- R181: of the kinds outside the LINE class those of `ks` whose enable is yes have joined the pending state, and no other. -/
def partRaised (a : State) (ks : PartEvent → Prop) (b : State) : Prop :=
  ∀ k, b.mgmt.pending.hasPart k = true ↔ a.mgmt.pending.hasPart k = true ∨ (ks k ∧ kindEnabled a k.index = true)

/-- R181: of the lines those of `ls` have joined a LINE kind of the pending state, where its enable is yes, and no other. -/
def lineRaised (a : State) (k : LineEvent) (ls : LineNo → Prop) (b : State) : Prop :=
  ∀ l, mem (b.mgmt.pending.linesOfKind k) l = true ↔
    mem (a.mgmt.pending.linesOfKind k) l = true ∨ (ls l ∧ kindEnabled a k.index = true)

/-- R116, R129: entries that had the stamps `old` have been given the stamps `new`: 0, 1, 2 and onward in order of the stamps held. -/
def renumbered (old new : List Nat) : Prop :=
  new.Perm (List.range old.length) ∧ ∀ a ∈ old.zip new, ∀ b ∈ old.zip new, a.1 < b.1 → a.2 < b.2

/-- The commands that act in the load of a cold start or while RESET_N is held low. -/
def actsOutsideRun : Instr → Bool
  | .coldStart .. => true
  | .imageLoadDone .. => true
  | .imageReadTimeout => true
  | .warmRestart .. => true
  | .resetNLow => true
  | .millisecondTick .. => true
  | _ => false

/-- The Empty values of the eleven tables (R1, R29, R30, R63, R72, R105, R160, R162, R167, R178, R180), with a management address. -/
def blankTables (address : BitVec 48) : Tables where
  service := Vector.replicate 48
    { enabled := false, upTag := 0, allowed := 0, weight := 1, guarantee := 0, burst := 12288, borrow := false, upqCells := 16
      dnqCells := 16, idleMs := 0, shedClass := 2, autoRetrains := 0, autoWindowS := 60, lineId := 0 }
  profiles := Vector.replicate 16
    { valid := false, downKbps := 0, upKbps := 0, trickleKbps := 0, reach := 0, maxAtten := 0, activeMw := 0, idleMw := 0
      idleAllowed := false }
  pageMs := 500
  forwarding := Vector.replicate 192 { valid := false, tag := 0, line := 0 }
  uplink := { pinned := 0, headroom := 90, hysteresis := 5 }
  power :=
    { budgetNormal := 0, budgetHoldup := 0, budgetReserve := 0, listenMw := 0, trainMw := 0, energyThreshold := 0, cutoffMv := 42000
      reserveMv := 46000, recoverMv := 50000, saveIdleMs := 0, feedSettleMs := 3000, promoteCells := 8, wakeOnFeed := false
      wakeOnButton := false, wakeOnEnergy := false }
  test :=
    { prepareMs := 2000, measureMs := 5000, restoreMs := 2000, quietMs := 5000, maxDefers := 3, hazardMv := 50000, openOhms := 20000
      insulMinKohm := 1000, capPerKm := 50, testMw := 0 }
  time := { reference := .oscillator, localKhz := 20000, localFrac := 0, uplinkKhz := 25000, uplinkFrac := 0 }
  alarms := Vector.replicate 8 { enabled := false, time := 0, periodMs := 0, action := .wake, lines := 0, steps := 0 }
  eventEnable := 0xFFFFF#20
  mgmt := { mgmtAddress := address, stationAddress := 0, holdoffMs := 2000 }

/-- The Line Record and the counters of a DOWN line at a start (R4, R17, R26, R33, R52, R62). -/
def blankLine : Line where
  state := .down
  running := none
  ability := 0
  powerSave := false
  attenuation := none
  identity := none
  loopLength := none
  allocation := 0
  ceiling := 0
  credit := 0
  upq := []
  dnq := []
  failures := 0
  backoff := 0
  windowStart := none
  retrains := 0
  cost := 0
  lastFrame := none
  mode := .off
  idle := .stopped
  exchange := none
  ready := 0
  counters := { framesUp := 0, framesDown := 0, dropsUp := 0, dropsDown := 0, crcErr := 0, los := 0, retrains := 0 }

/-- The Line Record of a line after a restart (R4). -/
def restarted (enabled : Bool) (loopLength : Option Nat) : Line :=
  { blankLine with state := if enabled then .parked else .down, loopLength := loopLength }

/-- The empty record of the Results Table (R158, R159). -/
def blankResult : ResultRec where
  verdict := none
  endTime := 0
  origins := 0
  tag := none
  steps := 0
  outcomes := ⟨.notRun, .notRun, .notRun, .notRun⟩
  values := { foreign := none, loop := none, capacitance := none, length := none, insulation := none }

/-- The power state of a restart whose first battery poll has just started, the settled feed state as sampled (R111). -/
def restartedPower (settled : Bool) : PowerCtl := { settled := settled, polling := true }

end Sys2Proof.Claims

open Sys2Proof.Claims

/-! ## The queue of commands -/

/-- A step takes the command at the front of the queue and runs its meaning on the rest; with no command waiting the part idles, which
is the model's choice (assumption 1). -/
def Obligations.StepTakesFrontCommand : Prop :=
  (∀ (s : State) (c : Instr) (rest : List Instr), s.pending = c :: rest → step s = exec c { s with pending := rest }) ∧
  (∀ s : State, s.pending = [] → step s = .next s)

/-- Every command has a next state, in every state of the part, and its meaning leaves the queue of commands as it is: the manual
gives every message in every state an effect or says that it is ignored. No event is taken in the load of a cold start (R185), nor
while RESET_N is held low (R187), where cabinet time alone runs on: its tick moves the Time Base and nothing else. The model's
choices in it: assumptions 9 and 39. -/
def Obligations.EveryCommandAnswersNext : Prop :=
  (∀ (c : Instr) (s : State), ∃ t, exec c s = .next t ∧ t.pending = s.pending) ∧
  ((∀ (c : Instr) (s : State), s.stage ≠ .run → actsOutsideRun c = false → exec c s = .next (opened s)) ∧
   (∀ (s : State) (b : Bool), s.stage = .load → exec (.millisecondTick b) s = .next (opened s)) ∧
   (∀ (s : State) (b : Bool), s.stage = .held → ∃ t, exec (.millisecondTick b) s = .next { opened s with time := t } ∧
     t.now = min 281474976710655 (s.time.now + 1) ∧ t.inUse = s.time.inUse ∧ t.windowOpen = s.time.windowOpen))

/-! ## Start and restart -/

/-- The part right after power-on. What the manual gives after a cold start: the pool, the counters, the queues, the share, the hold, the
positions, RESERVE as the mode until the first poll ends (R111), the wake latches, the bus, the Results Table, the stamp counts,
cabinet time, the window, the events and the save state. The state has what every step keeps: the account of the cells, the tables
in their ranges with nothing pending, the account of the power, the lines as their states have them, and the queues in their order.
The model's choices in it, for the moment before the load has ended: the 48 lines DOWN, the tables at their Empty values, which is
why they lie in their ranges, and the save count 0 (assumption 7); and that this moment is the state after reset (assumption 8). -/
def Obligations.ResetValues : Prop :=
  CellsKept State.reset ∧ TablesKept State.reset ∧ PowerKept State.reset ∧ LinesKept State.reset ∧ QueuesKept State.reset ∧
  let s := State.reset
  s.pool.free = 3072 ∧ s.pool.exhausted = false ∧ s.pool.oversize = 0 ∧ s.pool.undersize = 0 ∧ s.pool.unknownTag = 0 ∧
  (∀ l : LineNo, s.line l = blankLine ∧ s.results[l] = blankResult) ∧
  (∀ k : LinkNo, s.links[k].up = true ∧ s.links[k].silence = 0) ∧
  s.uplink.up = false ∧ s.uplink.reported = 0 ∧ s.uplink.effective = 0 ∧ s.uplink.basis = 0 ∧ s.uplink.hold = 0 ∧
  s.uplink.control = [] ∧ s.uplink.tx = none ∧ s.uplink.eligiblePos = 0 ∧ s.uplink.borrowPos = 0 ∧
  s.share.flight = none ∧ s.share.spare = 0 ∧ s.share.snapshot = 0 ∧ s.share.oversubscribed = false ∧ s.share.again = false ∧
  s.power.mode = .reserve ∧ s.power.awaiting = true ∧ s.power.sample = none ∧ s.power.wait = [] ∧ s.power.testCommit = 0 ∧ budget s = 0 ∧
  s.test.bus = .idle ∧ s.test.queue = [] ∧ s.test.current = none ∧ s.time.now = 0 ∧ s.time.windowOpen = true ∧
  s.time.inUse = .oscillator ∧ s.mgmt.requests = [] ∧ s.mgmt.pending = {} ∧ s.mgmt.last = {} ∧ s.mgmt.notif = .idle ∧
  s.power.settleCount = 0 ∧ s.power.latches = ⟨false, false, false, false⟩ ∧ s.power.lastCause = none ∧
  s.power.entryPending = false ∧ s.power.stampCount = 0 ∧ s.test.stampCount = 0 ∧ s.test.quiet = 0 ∧ s.mgmt.holdoff = 0 ∧
  s.mgmt.restartPending = none ∧ s.image.phase = .idle ∧ s.image.count = 0 ∧ s.pending = []

/-- COLD_START takes the part from any state to the state right after power-on, with the straps and FEED_OK as they stand (R185);
only the flash keeps what it held. The model's choices in it: assumptions 7, 8, 9 and 46. -/
def Obligations.ColdStartIsReset : Prop :=
  ∀ (s : State) (straps : BitVec 4) (feedOk : Bool),
    exec (.coldStart straps feedOk) s = .next { State.reset with
      pins := ⟨feedOk, straps⟩
      power := { State.reset.power with settled := feedOk }
      image := { State.reset.image with region := s.image.region }
      pending := s.pending }

/-- IMAGE_LOAD_DONE and IMAGE_READ_TIMEOUT. With a good image (R185, R186) the tables and the save count are the image's, every line
is PARKED or DOWN by its Service entry, the blocks begin with the first battery poll, and RESTART is raised with its kind cold. A
bad image and a read that is late start the part in the same way (R185, R186): every table with its Empty values, the management
address from the straps, the save count 0, every line DOWN, and IMAGE_BAD raised after RESTART. Which images are good, and what
each byte of one is read as, is stated with the layouts (`SavedImageLoadsBack`). What a save has left in the region
(R189) shows in the bytes of the read alone. The model's choices in it: assumptions 14 and 20. -/
def Obligations.ImageLoadStartsThePart : Prop :=
  (∀ (s : State) (data : Bytes), s.stage = .load → imageGood data = true →
     ∃ u : State,
       exec (.imageLoadDone data) s = .next (chooseFrame (raiseRestart .cold u)) ∧
       u = { opened s with
         stage := .run
         tables := (readImage data).tables
         image := { s.image with count := (readImage data).count }
         lines := Vector.ofFn fun l => restarted (readImage data).tables.service[l].enabled none
         power := { s.power with polling := true, pollTimer := 0 }
         time := u.time
         out := [.pollBattery] } ∧
       u.time.now = s.time.now ∧ u.time.inUse = s.time.inUse ∧ u.time.windowOpen = s.time.windowOpen ∧ u.time.periodCount = 0) ∧
  (∀ s : State, s.stage = .load →
     ∃ u : State,
       (∀ data, imageGood data = false →
         exec (.imageLoadDone data) s = .next (chooseFrame (raisePart .imageBad (raiseRestart .cold u)))) ∧
       exec .imageReadTimeout s = .next (chooseFrame (raisePart .imageBad (raiseRestart .cold u))) ∧
       u = { opened s with
         stage := .run
         tables := blankTables (0x02D7C4800000#48 ||| s.pins.straps.zeroExtend 48)
         image := { s.image with count := 0 }
         lines := Vector.replicate 48 blankLine
         power := { s.power with polling := true, pollTimer := 0 }
         time := u.time
         out := [.pollBattery] } ∧
       u.time.now = s.time.now ∧ u.time.inUse = s.time.inUse ∧ u.time.windowOpen = s.time.windowOpen ∧ u.time.periodCount = 0)

/-- RESET_N_LOW and WARM_RESTART (R187). While the pin is low the part holds its warm-restart values. Kept: the tables, the save
count, the estimated loop lengths, the Results Table, cabinet time, and what lies outside the part. At the restart, from the held
state or without it, LINE_MODE OFF goes to every line, RELEASE to the test port, the first battery poll starts, and RESTART is
raised with its kind warm. The model's choices in it: assumptions 9, 16 and 23; that the terminal is enabled after it, also where the
part was in DORMANT (assumption 40); and that the feed settled while the pin is low is the FEED_OK level last sampled (assumption
33). -/
def Obligations.WarmRestartKeepsAndStarts : Prop :=
  (∀ s : State, s.stage = .run → ∃ t : State, exec .resetNLow s = .next t ∧
    t = { stage := .held, pins := s.pins, tables := s.tables, results := s.results, pending := s.pending
          time := t.time
          image := { count := s.image.count, region := s.image.region }
          lines := Vector.ofFn fun l => restarted (s.service l).enabled (s.line l).loopLength
          links := Vector.replicate 6 {}, pool := {}, uplink := { refValid := s.uplink.refValid }, share := {}
          power := { settled := s.pins.feedOk }, test := {}, mgmt := {}, notes := {}, out := [] } ∧
    t.time.now = s.time.now ∧ t.time.inUse = .oscillator ∧ t.time.windowOpen = true) ∧
  ∀ (s : State) (feedOk : Bool), s.stage ≠ .load → ∃ u : State,
    exec (.warmRestart feedOk) s = .next (raiseRestart .warm u) ∧
    u = { stage := .run, pins := ⟨feedOk, s.pins.straps⟩, tables := s.tables, results := s.results, pending := s.pending
          time := u.time
          image := { count := s.image.count, region := s.image.region }
          lines := Vector.ofFn fun l => restarted (s.service l).enabled (s.line l).loopLength
          links := Vector.replicate 6 {}, pool := {}, uplink := { refValid := s.uplink.refValid }, share := {}
          power := restartedPower feedOk, test := {}, mgmt := {}, notes := {}
          out := (List.finRange 48).map (fun l => OutMsg.lineMode l .off) ++ [.release none, .pollBattery] } ∧
    u.time.now = s.time.now ∧ u.time.inUse = .oscillator ∧ u.time.windowOpen = true

/-! ## Frames from a line (R53 to R56, R19) -/

namespace Sys2Proof.Claims

/-- The cells a frame of a length occupies (R49). -/
def cells (length : Nat) : Nat := (length + 127) / 128

/-- A line's record with DROPS_UP one higher. -/
def droppedUp (x : Line) : Line := { x with counters := { x.counters with dropsUp := min 65535 (x.counters.dropsUp + 1) } }

/-- A line's record with DROPS_DOWN one higher. -/
def droppedDown (x : Line) : Line := { x with counters := { x.counters with dropsDown := min 65535 (x.counters.dropsDown + 1) } }

/-- A drop for shortage (R51): the first of an episode sets the flag and raises POOL_EXHAUSTED. -/
def short (u : State) : State :=
  if u.pool.exhausted then u else raisePart .poolExhausted { u with pool := { u.pool with exhausted := true } }

/-- A frame passes the first three checks of R55. -/
def fitsUp (s : State) (l : LineNo) (frame : Bytes) : Prop :=
  64 ≤ frame.length ∧ frame.length ≤ 1532 ∧ (s.service l).upTag ≠ 0 ∧
    depth (s.line l).upq + cells (frame.length + 4) ≤ (s.service l).upqCells

/-- The state with an upstream frame accepted (R56), before R19 is looked at: `tagged` joins the queue. -/
def acceptedUp (l : LineNo) (frame : Bytes) (s : State) : State :=
  let x := s.line l
  let tag := (s.service l).upTag
  let tagged : Frame := ⟨frame.take 12 ++ [0x9A, 0x30] ++ beBytes 2 tag ++ frame.drop 12, some tag⟩
  withLine { onLink l s with pool := { s.pool with free := s.pool.free - cells (frame.length + 4) } } l
    { x with
      upq := x.upq ++ [tagged]
      counters := { x.counters with framesUp := min 4294967295 (x.counters.framesUp + 1) }
      lastFrame := some s.time.now
      idle := if x.state = .active then .running 0 else x.idle }

/-- The state with an IDLE_LOW line of running profile `p` promoted (R19): `u` is the state in which it is admitted. -/
def promoted (l : LineNo) (p : ProfileNo) (u : State) : State :=
  let pr := u.profile p
  let mode : LineMode := .run p pr.downKbps pr.upKbps
  triggerReshare { withLine u l { u.line l with
      state := .active, cost := pr.activeMw, ceiling := pr.upKbps, idle := .running 0, mode := mode } with
    out := u.out ++ (if (u.line l).mode = mode then [] else [.lineMode l mode])
    notes := { u.notes with scan := u.notes.scan || decide (pr.activeMw < (u.line l).cost) } }

end Sys2Proof.Claims

/-- R53: an errored FRAME_UP steps CRC_ERR in every line state, and does nothing else. R54, R55: the drops of a FRAME_UP that is not
errored. -/
def Obligations.UpstreamDrops : Prop :=
  (∀ (s : State) (l : LineNo) (frame : Bytes), Hears s l →
     exec (.frameUp (linkOf l) (lineNumber l) frame true) s = .next (chooseFrame (withLine (onLink l s) l
       { s.line l with counters := { (s.line l).counters with crcErr := min 65535 ((s.line l).counters.crcErr + 1) } }))) ∧
  (∀ (s : State) (l : LineNo) (frame : Bytes), Hears s l →
     let r := exec (.frameUp (linkOf l) (lineNumber l) frame false) s
     let x := s.line l
     ((x.state = .listening ∨ x.state = .training ∨ x.state = .testing) →
       r = .next (chooseFrame (withLine (onLink l s) l (droppedUp x)))) ∧
     ((x.state = .down ∨ x.state = .parked ∨ x.state = .blocked) → r = .next (chooseFrame (onLink l s))) ∧
     ((x.state = .active ∨ x.state = .idleLow) → ¬ fitsUp s l frame →
       r = .next (chooseFrame (withLine (onLink l s) l (droppedUp x)))) ∧
     ((x.state = .active ∨ x.state = .idleLow) → fitsUp s l frame → s.pool.free < cells (frame.length + 4) →
       r = .next (chooseFrame (short (withLine (onLink l s) l (droppedUp x))))))

/-- R56 with R19: a FRAME_UP that is accepted. On an IDLE_LOW line whose queue it leaves deeper than promote_cells and that holds no
entry, a PROMOTE admission is requested, and granted or entered in the Power Wait Queue. -/
def Obligations.UpstreamAccepted : Prop :=
  ∀ (s : State) (l : LineNo) (frame : Bytes) (p : ProfileNo), Hears s l →
    ((s.line l).state = .active ∨ (s.line l).state = .idleLow) → (s.line l).running = some p →
    fitsUp s l frame → cells (frame.length + 4) ≤ s.pool.free →
    let u := acceptedUp l frame s
    let r := exec (.frameUp (linkOf l) (lineNumber l) frame false) s
    let deep := s.tables.power.promoteCells < depth (u.line l).upq ∨ s.tables.power.promoteCells < depth (u.line l).dnq
    ((s.line l).state = .active ∨ ¬ deep ∨ (waitKind s l).isSome → r = .next (chooseFrame u)) ∧
    ((s.line l).state = .idleLow → deep → waitKind s l = none →
      r = .next (finish (if admits (s.line l).cost (s.profile p).activeMw s then promoted l p u else addWait l .promote none u)))

/-! ## READY and the line links (R15, R16, R62) -/

namespace Sys2Proof.Claims

/-- Delivery on a line (R62): as many frames of the downstream queue as the READY credit covers go to the transceiver in order, their cells
returning to the pool; a return that leaves more than 64 cells free ends an exhaustion episode (R51). -/
def delivered (l : LineNo) (u : State) : State :=
  let x := u.line l
  let n := min x.ready x.dnq.length
  let back := depth (x.dnq.take n)
  { withLine u l { x with ready := x.ready - n, dnq := x.dnq.drop n } with
    pool := { u.pool with
      free := u.pool.free + back
      exhausted := u.pool.exhausted && (back = 0 || u.pool.free + back ≤ 64) }
    out := u.out ++ (x.dnq.take n).map fun f => .frameDown l f.data }

end Sys2Proof.Claims

/-- R62: READY raises the credit of a line in service to at most 4, and the frames at the head of the downstream queue that it covers
go to the transceiver in order, their cells returning to the pool. In any other state, and for a count of 0, it is ignored. -/
def Obligations.ReadyDeliversFrames : Prop :=
  ∀ (s : State) (l : LineNo) (count : Nat), Hears s l →
    let x := s.line l
    ((x.state = .active ∨ x.state = .idleLow) → 0 < count →
      exec (.ready (linkOf l) (lineNumber l) count) s =
        .next (chooseFrame (delivered l (withLine (onLink l s) l { x with ready := min 4 (x.ready + count) })))) ∧
    ((¬ (x.state = .active ∨ x.state = .idleLow) ∨ count = 0) →
      exec (.ready (linkOf l) (lineNumber l) count) s = .next (chooseFrame (onLink l s)))

namespace Sys2Proof.Claims

/-- R15, R16: a message has arrived on a link: its silence timer is 0, and a LOST link is UP again, each of its eight lines told its
mode, RELEASE_FOR_TEST standing for it on a TESTING line. -/
def heard (k : LinkNo) (s : State) : State :=
  { opened s with
    links := s.links.set k.val ⟨true, 0⟩
    out := if s.links[k].up then [] else
      ((List.finRange 48).filter fun l => l.val / 8 = k.val).map fun l =>
        if (s.line l).state = .testing then .releaseForTest l else .lineMode l (s.line l).mode }

end Sys2Proof.Claims

/-- R14 to R16: a line message, on a link that is UP or LOST. Whichever of the five it is, the link's silence timer becomes 0, and a
LOST link returns to UP with the mode of each of its eight lines sent again; a message that names a line the link serves is then
handled for that line as any message is, by the judgement of its kind; and one that names no line of the link is discarded. -/
def Obligations.MessageReturnsLostLink : Prop :=
  ∀ (s : State) (k : LinkNo) (n level count : Nat) (page : RawPage) (frame : Bytes) (errored : Bool), s.stage = .run →
    let h := heard k s
    (∀ l : LineNo, n = lineNumber l → l.val / 8 = k.val →
      exec (.energyReport k n level) s = .next (finish (judgeEnergy level l h)) ∧
      exec (.losReport k n) s = .next (finish (lineLos l h)) ∧
      exec (.pageRx k n page) s = .next (finish (deliverPage l page h)) ∧
      exec (.frameUp k n frame errored) s = .next (finish (judgeUp l frame errored h)) ∧
      ((h.line l).inService = true → 0 < count → exec (.ready k n count) s =
        .next (chooseFrame (delivered l (withLine h l { h.line l with ready := min 4 ((h.line l).ready + count) })))) ∧
      ((h.line l).inService = false ∨ count = 0 → exec (.ready k n count) s = .next (chooseFrame h))) ∧
    ((∀ l : LineNo, n = lineNumber l → l.val / 8 ≠ k.val) →
      exec (.energyReport k n level) s = .next (chooseFrame h) ∧ exec (.losReport k n) s = .next (chooseFrame h) ∧
      exec (.pageRx k n page) s = .next (chooseFrame h) ∧ exec (.frameUp k n frame errored) s = .next (chooseFrame h) ∧
      exec (.ready k n count) s = .next (chooseFrame h))

namespace Sys2Proof.Claims

/-- R28: at a retrain of the line, its window starts again: it has none, or autotest_window_s have passed. -/
def windowSpent (s : State) (l : LineNo) : Bool :=
  match (s.line l).windowStart with
  | none => true
  | some t => decide (t + 1000 * (s.service l).autoWindowS ≤ s.time.now)

/-- R28: the count of retrains that a retrain of the line makes. -/
def retrainCount (s : State) (l : LineNo) : Nat := if windowSpent s l then 1 else min 255 ((s.line l).retrains + 1)

/-- R28: the count has reached autotest_retrains, so the retrain asks for an AUTO test. -/
def askedByRetrain (s : State) (l : LineNo) : Bool :=
  decide ((s.service l).autoRetrains ≠ 0 ∧ (s.service l).autoRetrains ≤ retrainCount s l)

/-- R28: the window of a line after a retrain counted in the state `s`: `y` is its record after. -/
def windowCounted (s : State) (l : LineNo) (y : Line) : Prop :=
  y.windowStart = (if windowSpent s l then some s.time.now else (s.line l).windowStart) ∧
  y.retrains = if askedByRetrain s l then 0 else retrainCount s l

/-- R28, R131: a retrain of the line, counted in the state `s`, with the AUTO request it may make; `t` is the state after. -/
def retrainCounted (s : State) (l : LineNo) (t : State) : Prop :=
  windowCounted s l (t.line l) ∧
  t.test = if askedByRetrain s l then (requestOwn l 2#3 14#4 { s with lines := t.lines }).test else s.test

/-- The change from a line's cost to listen_mW is granted (R12). -/
def listenGranted (s : State) (l : LineNo) : Prop :=
  s.tables.power.listenMw ≤ (s.line l).cost ∨
    (s.power.mode ≠ .dormant ∧ committed s + s.tables.power.listenMw ≤ budget s + (s.line l).cost)

/-- R15: the state in which line `l` of a lost link has its turn, `u` being the state after the loss: the lines of the link that stand
before it have had theirs. -/
def atTurn (s : State) (l : LineNo) (u : State) : State :=
  { s with lines := Vector.ofFn fun i => if linkOf i = linkOf l ∧ i < l then u.line i else s.line i }

/-- R12: a line that had a cost in `v` has given it up, and stands in `u` LISTENING at listen_mW, or PARKED with no cost and, outside
DORMANT, a LISTEN entry where listen_mW is refused. -/
def handedBack (v : State) (l : LineNo) (u : State) : Prop :=
  (listenGranted v l → (u.line l).state = .listening ∧ (u.line l).cost = v.tables.power.listenMw ∧ (u.line l).mode = .listen) ∧
  (¬ listenGranted v l → (u.line l).state = .parked ∧ (u.line l).cost = 0 ∧
    (v.power.mode ≠ .dormant → (u.line l).mode = .off ∧
      ((v.line l).inService = true ∨ waitKind v l = none → waitKind u l = some .listen)))

end Sys2Proof.Claims

/-- R15, R9, R12, R13, R28: at 100 ms of silence the link is LOST, and its lines have their turns in ascending line number. The READY
credits of its lines are 0; a line in service leaves it with its queues flushed and counted, LINE_LOST raised and its retrain
counted, with an AUTO request for each line in turn whose count has reached autotest_retrains; a TRAINING line leaves TRAINING with
its failures one higher and TRAIN_FAIL raised; either goes to LISTENING at listen_mW, the TRAINING one with the backoff its failures
set, or to PARKED at no cost, with no backoff and a LISTEN entry, where the account refuses listen_mW at its turn; and every other
line stays as it is. Lines of other links are untouched. The model's choices in it: assumptions 2 and 32. -/
def Obligations.SilenceLosesLink : Prop :=
  ∀ (s : State) (k : LinkNo), s.stage = .run →
    (¬ (s.links[k].up = true ∧ 100 ≤ s.links[k].silence) → exec (.linkSilenceTimeout k) s = .next (chooseFrame (opened s))) ∧
    (s.links[k].up = true → 100 ≤ s.links[k].silence → ∃ u : State, exec (.linkSilenceTimeout k) s = .next (finish u) ∧
      u.links = s.links.set k.val ⟨false, s.links[k].silence⟩ ∧
      (∀ l : LineNo, linkOf l ≠ k → u.line l = s.line l) ∧
      (∀ l : LineNo, linkOf l = k →
        (u.line l).ready = 0 ∧
        ((s.line l).inService = true → ((u.line l).state = .listening ∨ (u.line l).state = .parked) ∧ (u.line l).upq = [] ∧
          (u.line l).dnq = [] ∧ (u.line l).running = none ∧ (u.line l).allocation = 0 ∧ (u.line l).credit = 0 ∧
          (u.line l).ceiling = 0 ∧ (u.line l).idle = .stopped ∧ (u.line l).failures = (s.line l).failures ∧ (u.line l).backoff = 0 ∧
          (u.line l).counters = { (s.line l).counters with
            dropsUp := min 65535 ((s.line l).counters.dropsUp + (s.line l).upq.length)
            dropsDown := min 65535 ((s.line l).counters.dropsDown + (s.line l).dnq.length)
            los := min 65535 ((s.line l).counters.los + 1) } ∧
          windowCounted s l (u.line l) ∧ handedBack (atTurn s l u) l u) ∧
        ((s.line l).state = .training → ((u.line l).state = .listening ∨ (u.line l).state = .parked) ∧
          (u.line l).exchange = none ∧ (u.line l).failures = min 255 ((s.line l).failures + 1) ∧
          (u.line l).backoff = (if (u.line l).state = .listening then min 64000 (1000 * 2 ^ ((u.line l).failures - 1)) else 0) ∧
          (u.line l).counters = (s.line l).counters ∧ handedBack (atTurn s l u) l u) ∧
        ((s.line l).inService = false → (s.line l).state ≠ .training → u.line l = { s.line l with ready := 0 })) ∧
      lineRaised s .lineLost (fun l => linkOf l = k ∧ (s.line l).inService = true) u ∧
      lineRaised s .trainFail (fun l => linkOf l = k ∧ (s.line l).state = .training) u ∧
      u.mgmt.pending.lineUp = s.mgmt.pending.lineUp ∧ u.mgmt.pending.shed = s.mgmt.pending.shed ∧
      (∀ l : LineNo, linkOf l ≠ k ∨ ((s.line l).inService = false ∧ (s.line l).state ≠ .training) → waitKind u l = waitKind s l) ∧
      u.power = { s.power with wait := u.power.wait, stampCount := u.power.stampCount } ∧
      u.test = (((List.finRange 48).filter fun l => decide (linkOf l = k) && (s.line l).inService && askedByRetrain s l).foldl
        (fun w l => requestOwn l 2#3 14#4 w) { s with lines := u.lines }).test ∧
      u = { opened s with
        lines := u.lines, links := u.links, pool := u.pool, uplink := u.uplink, share := u.share, power := u.power, test := u.test
        mgmt := u.mgmt, out := u.out, notes := u.notes })

/-! ## ENERGY and LOS (R8, R9, R12, R13) -/

namespace Sys2Proof.Claims

/-- The line's ENERGY report is taken (R8). -/
def energyDue (s : State) (l : LineNo) (level : Nat) : Prop :=
  (s.line l).state = .listening ∧ s.tables.power.energyThreshold ≤ level ∧ (s.line l).backoff = 0 ∧ waitKind s l = none

/-- The exchange record of R33 at its start, and the BASE page of R35 sent with it. -/
def openedExchange (s : State) (l : LineNo) (advertised : ProfileSet) (save : Bool) : Exchange :=
  let id := (s.service l).lineId
  { phase := .base, step := 0, prevKind := none, resends := 0, timer := 0, limit := s.tables.pageMs, extSteps := 0
    lastPage := ⟨if id ≠ 0 then 0x20 else 0, advertised.extractLsb' 8 8, advertised.extractLsb' 0 8, if save then 1 else 0, 0, 0⟩
    partMore := id ≠ 0, modemMore := false, advertised := advertised, lineId := id, chosen := none }

/-- R35: the set a line would advertise, and the power-save flag of its BASE page. -/
def offers (a : State) (l : LineNo) (adv : ProfileSet) (save : Bool) : Prop :=
  (∀ p : ProfileNo, mem adv p = true ↔ (a.profile p).valid = true ∧ mem (a.service l).allowed p = true ∧
    ∀ len, (a.line l).loopLength = some len → len ≤ (a.profile p).reach) ∧
  (save = true ↔ ∃ p : ProfileNo, mem adv p = true ∧ (a.profile p).idleAllowed = true)

/-- A LINE_MODE message where the mode differs from the one last commanded (section 1.3). -/
def modeMessage (l : LineNo) (before after : LineMode) : List OutMsg := if before = after then [] else [.lineMode l after]

/-- R9 with R12: the exchange of a line has ended in failure, `v` being the state before. The line is LISTENING with its failures one
higher and the backoff they set, or PARKED with no backoff and a LISTEN entry where listen_mW is refused; TRAIN_FAIL is raised. -/
def fails (v : State) (l : LineNo) (u : State) : Prop :=
  let n := min 255 ((v.line l).failures + 1)
  (listenGranted v l → u.power = v.power ∧ u.line l = { v.line l with
    state := .listening, cost := v.tables.power.listenMw, mode := .listen, exchange := none, failures := n
    backoff := min 64000 (1000 * 2 ^ (n - 1)) }) ∧
  (¬ listenGranted v l → u.line l = { v.line l with
    state := .parked, cost := 0, mode := (u.line l).mode, exchange := none, failures := n, backoff := 0 } ∧
    (v.power.mode ≠ .dormant → (u.line l).mode = .off ∧ (waitKind v l = none → waitKind u l = some .listen))) ∧
  (kindEnabled v 2 = true → mem u.mgmt.pending.trainFail l = true) ∧ (∀ k, k ≠ l → u.line k = v.line k) ∧
  u = { v with lines := u.lines, power := u.power, mgmt := u.mgmt, out := u.out, notes := u.notes }

end Sys2Proof.Claims

namespace Sys2Proof.Claims

/-- R127: the supply can carry the part. -/
def carries (s : State) : Prop :=
  s.power.settled = true ∨ s.power.sample = none ∨ ∃ v, s.power.sample = some v ∧ (s.tables.power.cutoffMv : Int) ≤ v

/-- R127: DORMANT exit, from `w` to `u`: the mode is evaluated as from RESERVE, MODE_CHANGE and WAKE are raised, the terminal is
enabled, every PARKED line that holds none is given a LISTEN entry and listens for wake no more, a scan is made and the test arbiter
told. -/
def leavesDormant (w u : State) : Prop :=
  u.power.mode = evaluateMode w (some .reserve) ∧ u.power.wakeTaken = false ∧ u.power.lastCause = w.power.lastCause ∧
  u.power.latches = w.power.latches ∧ u.uplink.terminalOn = true ∧ OutMsg.terminalOn ∈ u.out ∧
  u.notes.scan = true ∧ u.notes.arbiter = true ∧
  (kindEnabled w 7 = true → u.mgmt.pending.hasPart .modeChange = true) ∧
  (kindEnabled w 8 = true → u.mgmt.pending.hasPart .wake = true ∧ u.mgmt.wakeDetail = w.power.lastCause) ∧
  (∀ l, (w.line l).state = .parked → (waitKind u l).isSome = true ∧ u.line l = { w.line l with mode := .off }) ∧
  (∀ l, (w.line l).state ≠ .parked → u.line l = w.line l) ∧
  u = { w with lines := u.lines, uplink := u.uplink, share := u.share, power := u.power, mgmt := u.mgmt, out := u.out, notes := u.notes }

/-- R126: a wake event of a source is taken in DORMANT: `v` has its latch set, `arms` says that the source is armed, and `r` is the
state after the event: the first armed one is the wake, with its cause, and the exit is made where the supply can carry the part. -/
def woken (v : State) (arms : Prop) (cause : WakeCause) (r : State) : Prop :=
  let w := { v with power := { v.power with wakeTaken := true, lastCause := some cause } }
  (¬ (arms ∧ v.power.wakeTaken = false) → r = v) ∧
  (arms → v.power.wakeTaken = false → ¬ carries v → r = w) ∧
  (arms → v.power.wakeTaken = false → carries v → leavesDormant w r)

end Sys2Proof.Claims

/-- R8, R33, R35: a taken ENERGY report whose TRAIN admission is granted starts the exchange. The advertised set holds the profiles
that are valid, allowed, and within reach of the estimated loop length where one is present. One whose TRAIN admission is refused
enters a TRAIN entry. In DORMANT one from a PARKED class-0 line at the threshold is a wake event (R126): the ENERGY latch is set, and
where wake_on_class0_energy is yes and no wake is taken yet it is the wake, with the line's number and the cabinet time as its cause,
and the exit is made where the supply can carry the part (R127). Any other report changes nothing. -/
def Obligations.EnergyReportsTaken : Prop :=
  (∀ (s : State) (l : LineNo) (level : Nat), Hears s l → energyDue s l level →
     admits (s.line l).cost s.tables.power.trainMw s = true → ∃ (u : State) (adv : ProfileSet) (save : Bool),
       exec (.energyReport (linkOf l) (lineNumber l) level) s = .next (finish u) ∧
       (∀ p : ProfileNo, mem adv p = true ↔ (s.profile p).valid = true ∧ mem (s.service l).allowed p = true ∧
         ∀ len, (s.line l).loopLength = some len → len ≤ (s.profile p).reach) ∧
       (save = true ↔ ∃ p : ProfileNo, mem adv p = true ∧ (s.profile p).idleAllowed = true) ∧
       u = { withLine (onLink l s) l { s.line l with
             state := .training, cost := s.tables.power.trainMw, ability := 0, powerSave := false, attenuation := none
             identity := none, mode := .train, exchange := some (openedExchange s l adv save) } with
         out := modeMessage l (s.line l).mode .train ++ [.sendPage l (openedExchange s l adv save).lastPage]
         notes := { scan := s.tables.power.trainMw < (s.line l).cost } }) ∧
  (∀ (s : State) (l : LineNo) (level : Nat), Hears s l →
     let r := exec (.energyReport (linkOf l) (lineNumber l) level) s
     let wakes := s.power.mode = .dormant ∧ (s.line l).state = .parked ∧ (s.service l).shedClass = 0 ∧
       s.tables.power.energyThreshold ≤ level
     (energyDue s l level → admits (s.line l).cost s.tables.power.trainMw s = false →
       r = .next (chooseFrame (addWait l .train none (onLink l s)))) ∧
     (¬ energyDue s l level → ¬ wakes → r = .next (chooseFrame (onLink l s))) ∧
     (wakes → ∃ u, r = .next (finish u) ∧
       woken { onLink l s with power := { s.power with latches := { s.power.latches with energy := true } } }
         (s.tables.power.wakeOnEnergy = true) ⟨.energy, lineNumber l, s.time.now⟩ u))

/-- R13 with R11, R12 and R28: LOS in service. The line leaves service, its queues are flushed and counted, its allocation moves to the
spare, it goes to LISTENING, or to PARKED with a LISTEN entry where listen_mW is refused, and the retrain is counted in its window,
which may ask for an AUTO test. R13, R46, R9: LOS in TRAINING fails
the exchange: the line goes to LISTENING with its failures one higher and the backoff they set, or to PARKED with no backoff where
listen_mW is refused (R12), and TRAIN_FAIL is raised. In every other state LOS is ignored. The model's choices in it: assumption 32.
-/
def Obligations.LosTakenByState : Prop :=
  (∀ (s : State) (l : LineNo), Hears s l → ((s.line l).state = .active ∨ (s.line l).state = .idleLow) →
     let x := s.line l
     ∃ u : State, exec (.losReport (linkOf l) (lineNumber l)) s = .next (finish u) ∧
       (u.line l).upq = [] ∧ (u.line l).dnq = [] ∧ (u.line l).ready = 0 ∧ (u.line l).allocation = 0 ∧ (u.line l).credit = 0 ∧
       (u.line l).running = none ∧ (u.line l).ceiling = 0 ∧ (u.line l).idle = .stopped ∧ (u.line l).failures = x.failures ∧
       (u.line l).backoff = 0 ∧
       (u.line l).counters = { x.counters with
         dropsUp := min 65535 (x.counters.dropsUp + x.upq.length)
         dropsDown := min 65535 (x.counters.dropsDown + x.dnq.length)
         los := min 65535 (x.counters.los + 1) } ∧
       (listenGranted s l → (u.line l).state = .listening ∧ (u.line l).cost = s.tables.power.listenMw ∧ (u.line l).mode = .listen) ∧
       (¬ listenGranted s l → (u.line l).state = .parked ∧ (u.line l).cost = 0 ∧
         (s.power.mode ≠ .dormant → (u.line l).mode = .off ∧ waitKind u l = some .listen)) ∧
       u.pool.free = s.pool.free + depth x.upq + depth x.dnq ∧ u.share.spare = s.share.spare + x.allocation ∧
       u.share.flight.isSome = true ∧ (s.uplink.tx = some (.line l) → x.upq ≠ [] → u.uplink.tx = none) ∧
       (kindEnabled s 1 = true → mem u.mgmt.pending.lineLost l = true) ∧ retrainCounted s l u ∧
       (∀ k, k ≠ l → u.line k = s.line k) ∧
       u = { onLink l s with
         lines := u.lines, pool := u.pool, uplink := u.uplink, share := u.share, power := u.power, test := u.test, mgmt := u.mgmt
         out := u.out, notes := u.notes }) ∧
  (∀ (s : State) (l : LineNo), Hears s l →
     let x := s.line l
     (x.state = .training → ∃ u : State, exec (.losReport (linkOf l) (lineNumber l)) s = .next (finish u) ∧
       fails (onLink l s) l u) ∧
     (x.state ≠ .training → x.inService = false →
       exec (.losReport (linkOf l) (lineNumber l)) s = .next (chooseFrame (onLink l s))))

/-! ## The exchange (R32 to R44) -/

namespace Sys2Proof.Claims

/-- The line trains, with the exchange record `x`. -/
def Trains (s : State) (l : LineNo) (x : Exchange) : Prop := (s.line l).state = .training ∧ (s.line l).exchange = some x

/-- The exchange after a step has begun with the page the part sends (R34). -/
def stepped (s : State) (x : Exchange) (phase : Phase) (took : PageKind) (page : RawPage) : Exchange :=
  { x with phase := phase, step := x.step + 1, lastPage := page, prevKind := some took, resends := 0, timer := 0
           limit := s.tables.pageMs, partMore := false }

/-- The EXT page of the step after `x.step` (R39): LINE_ID at step 1 where the copy is not 0, and a filler otherwise. -/
def extensionPage (x : Exchange) : RawPage :=
  let head : Byte := if (x.step + 1) % 2 = 1 then 0x11 else 0x01
  if x.step = 0 ∧ x.lineId ≠ 0 then
    ⟨head, 3, BitVec.ofNat 8 (x.lineId / 16777216), BitVec.ofNat 8 (x.lineId / 65536), BitVec.ofNat 8 (x.lineId / 256),
      BitVec.ofNat 8 x.lineId⟩
  else ⟨head, 0, 0, 0, 0, 0⟩

/-- The SELECT page of the step after `x.step` (R44). -/
def selectPageOf (x : Exchange) (p : ProfileNo) : RawPage :=
  ⟨if (x.step + 1) % 2 = 1 then 0x12 else 0x02, BitVec.ofNat 8 p.val, 0, 0, 0, 0⟩

/-- R41: a profile is of the common set. -/
def common (s : State) (y : Line) (x : Exchange) (p : ProfileNo) : Prop :=
  mem x.advertised p = true ∧ mem y.ability p = true ∧ ∀ a, y.attenuation = some a → a ≤ (s.profile p).maxAtten

/-- R42: a cost is no more than budget − committed + own. -/
def affords (s : State) (l : LineNo) (cost : Nat) : Prop := cost + committed s ≤ budget s + (s.line l).cost

/-- R42: the profile and state that resolution chooses, with the cost it reserves: the highest of the common set whose active_mW is
affordable; else the best candidate in IDLE_LOW. -/
def chooses (s : State) (l : LineNo) (y : Line) (x : Exchange) (p : ProfileNo) (k : Service) (cost : Nat) : Prop :=
  (k = .active ∧ cost = (s.profile p).activeMw ∧ common s y x p ∧ affords s l cost ∧
    ∀ q, p < q → common s y x q → ¬ affords s l (s.profile q).activeMw) ∨
  (k = .idleLow ∧ cost = (s.profile p).idleMw ∧ common s y x p ∧ (∀ q, p < q → ¬ common s y x q) ∧
    (∀ q, common s y x q → ¬ affords s l (s.profile q).activeMw) ∧
    (s.profile p).idleAllowed = true ∧ y.powerSave = true ∧ affords s l cost)

/-- R43: the need of a TRAIN entry: the least active_mW over the common set, the best profile's idle_mW being compared with them where
that profile has idle_allowed and the modem power-save. -/
def needed (s : State) (y : Line) (x : Exchange) (n : Nat) : Prop :=
  let idle (p : ProfileNo) : Prop := (∀ q, p < q → ¬ common s y x q) ∧ (s.profile p).idleAllowed = true ∧ y.powerSave = true
  (∃ p, common s y x p ∧ (n = (s.profile p).activeMw ∨ (idle p ∧ n = (s.profile p).idleMw))) ∧
  ∀ p, common s y x p → n ≤ (s.profile p).activeMw ∧ (idle p → n ≤ (s.profile p).idleMw)

/-- What a page taken in phase BASE or EXTENSION leaves in the Line Record (R38, R39). -/
def learned (y : Line) (x : Exchange) (page : RawPage) : Line :=
  match x.phase with
  | .base => { y with ability := page.b1 ++ page.b2, powerSave := page.b3 != 0 }
  | _ =>
    if page.b1 = 1 then { y with attenuation := some (beNat [page.b4, page.b5]) }
    else if page.b1 = 2 then { y with identity := some (beNat [page.b2, page.b3, page.b4, page.b5]) }
    else y

/-- The exchange with the page taken in phase BASE or EXTENSION counted (R38, R39). -/
def counted (x : Exchange) (page : RawPage) : Exchange :=
  match x.phase with
  | .base => { x with modemMore := page.b0.getLsbD 5 }
  | _ => { x with extSteps := x.extSteps + 1, modemMore := page.b0.getLsbD 5 }

end Sys2Proof.Claims

/-- R32, R36, R38, R39: a page for a line that does not train is discarded; in a step, one of the other toggle is answered by the last
page where its kind is that of the step before, and is ignored otherwise; one of the right toggle and the wrong kind is ignored. One
that is taken in phase BASE or EXTENSION leads to an extension step: BASE where either side has more, EXT where the modem has more
and fewer than 8 extension steps are made. -/
def Obligations.PagesInSteps : Prop :=
  ∀ (s : State) (l : LineNo) (page : RawPage), Hears s l →
    let r := exec (.pageRx (linkOf l) (lineNumber l) page) s
    ((s.line l).state ≠ .training → r = .next (chooseFrame (onLink l s))) ∧
    (∀ x, Trains s l x → pageKind page = none → r = .next (chooseFrame (onLink l s))) ∧
    (∀ x kind, Trains s l x → pageKind page = some kind → pageToggle page ≠ x.step % 2 →
      r = .next (chooseFrame { onLink l s with out := if x.prevKind = some kind then [.sendPage l x.lastPage] else [] })) ∧
    (∀ x kind, Trains s l x → pageKind page = some kind → pageToggle page = x.step % 2 →
      kind ≠ (match x.phase with | .base => .base | .extension => .ext | .select => .select) →
      r = .next (chooseFrame (onLink l s))) ∧
    (∀ x kind, Trains s l x → pageKind page = some kind → pageToggle page = x.step % 2 →
      ((x.phase = .base ∧ kind = .base ∧ (x.partMore = true ∨ page.b0.getLsbD 5 = true)) ∨
        (x.phase = .extension ∧ kind = .ext ∧ page.b0.getLsbD 5 = true ∧ x.extSteps < 7)) →
      r = .next (chooseFrame { withLine (onLink l s) l
          { learned (s.line l) x page with
            exchange := some (stepped s (counted x page) .extension kind (extensionPage x)) } with
        out := [.sendPage l (extensionPage x)] }))

/-- R38 to R42: the last page before SELECT is taken and a profile is chosen: its cost is reserved in one admission, and the part's SELECT
page begins the phase. -/
def Obligations.ResolutionSelectsProfile : Prop :=
  ∀ (s : State) (l : LineNo) (page : RawPage) (x : Exchange) (kind : PageKind) (p : ProfileNo) (k : Service) (cost : Nat),
    Hears s l → Trains s l x → pageKind page = some kind → pageToggle page = x.step % 2 → page.b0.getLsbD 5 = false →
    ((x.phase = .base ∧ kind = .base ∧ x.partMore = false) ∨ (x.phase = .extension ∧ kind = .ext)) →
    chooses s l (learned (s.line l) x page) x p k cost →
    exec (.pageRx (linkOf l) (lineNumber l) page) s = .next (finish { withLine (onLink l s) l
        { learned (s.line l) x page with
          cost := cost
          exchange := some (stepped s { counted x page with chosen := some (p, k) } .select kind (selectPageOf x p)) } with
      out := [.sendPage l (selectPageOf x p)]
      notes := { scan := cost < (s.line l).cost } })

/-- R44, R10: the modem's SELECT of the chosen profile ends the exchange in success: the line enters service at its reserved cost, with
its failures and backoff 0, the profile's rate as its ceiling, RUN or TRICKLE sent, and LINE_UP raised. -/
def Obligations.SelectEntersService : Prop :=
  ∀ (s : State) (l : LineNo) (page : RawPage) (x : Exchange) (p : ProfileNo) (k : Service), Hears s l → Trains s l x →
    x.phase = .select → x.chosen = some (p, k) → pageKind page = some .select → pageToggle page = x.step % 2 →
    page.b1.toNat = p.val →
    let pr := s.profile p
    let mode : LineMode := match k with | .active => .run p pr.downKbps pr.upKbps | .idleLow => .trickle p pr.trickleKbps
    let u := raiseLine .lineUp l (triggerReshare { withLine (onLink l s) l
        { s.line l with
          state := (match k with | .active => .active | .idleLow => .idleLow)
          running := some p, failures := 0, backoff := 0, exchange := none, mode := mode
          ceiling := (match k with | .active => pr.upKbps | .idleLow => pr.trickleKbps)
          idle := (match k with | .active => .running 0 | .idleLow => .stopped) } with
      out := modeMessage l (s.line l).mode mode })
    exec (.pageRx (linkOf l) (lineNumber l) page) s =
      .next (chooseFrame (match k with | .active => u | .idleLow => addWait l .promote none u))

/-- R40, R41, R43, R44: how an exchange ends without service at a page. It fails at an EXT page with more where 8 extension steps
are made, at a resolution that finds no common profile, and at a SELECT of another profile than the one chosen. A resolution that
finds no profile the power allows returns the line to LISTENING with a TRAIN entry, or to PARKED with a LISTEN entry where listen_mW
is refused, with no failure. The TRAIN entry's need is the least active_mW of the candidates, with the best one's idle_mW among them
where IDLE_LOW is open to it. The model's
choices in it: assumption 32. -/
def Obligations.PageEndsExchangeWithoutService : Prop :=
  ∀ (s : State) (l : LineNo) (page : RawPage) (x : Exchange) (kind : PageKind), Hears s l → Trains s l x →
    pageKind page = some kind → pageToggle page = x.step % 2 →
    let r := exec (.pageRx (linkOf l) (lineNumber l) page) s
    let y := learned (s.line l) x page
    let more := page.b0.getLsbD 5
    let last := (x.phase = .base ∧ kind = .base ∧ x.partMore = false ∧ more = false) ∨
      (x.phase = .extension ∧ kind = .ext ∧ more = false)
    (x.phase = .extension → kind = .ext → more = true → 7 ≤ x.extSteps →
      ∃ u, r = .next (finish u) ∧ fails (withLine (onLink l s) l y) l u) ∧
    (last → (∀ p, ¬ common s y x p) → ∃ u, r = .next (finish u) ∧ fails (withLine (onLink l s) l y) l u) ∧
    (x.phase = .select → kind = .select → (∀ p k, x.chosen = some (p, k) → page.b1.toNat ≠ p.val) →
      ∃ u, r = .next (finish u) ∧ fails (onLink l s) l u) ∧
    (last → (∃ p, common s y x p) → (∀ p k cost, ¬ chooses s l y x p k cost) → listenGranted s l → s.power.mode ≠ .dormant →
      waitKind s l = none → ∃ u, r = .next (finish u) ∧
        u.line l = { y with state := .listening, cost := s.tables.power.listenMw, mode := .listen, exchange := none, backoff := 0 } ∧
        (∃ e ∈ u.power.wait, e.line = l ∧ e.kind = .train ∧ ∃ n, e.need = some n ∧ needed s y x n) ∧
        (∀ k, k ≠ l → u.line k = s.line k) ∧
        u = { onLink l s with lines := u.lines, power := u.power, out := u.out, notes := u.notes }) ∧
    (last → (∃ p, common s y x p) → (∀ p k cost, ¬ chooses s l y x p k cost) → ¬ listenGranted s l → s.power.mode ≠ .dormant →
      waitKind s l = none → ∃ u, r = .next (finish u) ∧
        u.line l = { y with state := .parked, cost := 0, mode := .off, exchange := none, backoff := 0 } ∧
        waitKind u l = some .listen ∧ (∀ k, k ≠ l → u.line k = s.line k) ∧
        u = { onLink l s with lines := u.lines, power := u.power, out := u.out, notes := u.notes })

/-- R37: a page timer's expiry. With fewer than 3 re-sends the last page is sent again and the timer starts again; with 3 the
exchange fails (R9, R12): the line leaves TRAINING with its failures one higher, the backoff they set, or PARKED with a LISTEN entry
where listen_mW is refused, and TRAIN_FAIL raised. Before the time, nothing happens. The model's choices in it: assumptions 2 and
32. -/
def Obligations.PageTimeoutResendsOrFails : Prop :=
  ∀ (s : State) (l : LineNo) (x : Exchange), s.stage = .run → Trains s l x →
    (x.timer < x.limit → exec (.pageTimeout l) s = .next (chooseFrame (opened s))) ∧
    (x.limit ≤ x.timer → x.resends < 3 → exec (.pageTimeout l) s = .next (chooseFrame { withLine (opened s) l
        { s.line l with exchange := some { x with resends := x.resends + 1, timer := 0, limit := s.tables.pageMs } } with
      out := [.sendPage l x.lastPage] })) ∧
    (x.limit ≤ x.timer → 3 ≤ x.resends → ∃ u : State, exec (.pageTimeout l) s = .next (finish u) ∧ fails (opened s) l u)

/-! ## Idle (R17 to R19) and the ends of backoff and hold (R9, R97) -/

/-- R18: at the expiry of an ACTIVE line's idle timer the line moves to IDLE_LOW where its running profile has idle_allowed and its
modem power-save, and stays with the timer stopped otherwise. With no expiry to take, nothing happens. The model's choices in it:
assumptions 2 and 21. -/
def Obligations.IdleExpiryMovesToIdleLow : Prop :=
  ∀ (s : State) (l : LineNo) (p : ProfileNo), s.stage = .run →
    let x := s.line l
    let pr := s.profile p
    (x.idle ≠ .expired → exec (.idleExpiry l) s = .next (chooseFrame (opened s))) ∧
    (x.state = .active → x.idle = .expired → x.running = some p → ¬ (pr.idleAllowed = true ∧ x.powerSave = true) →
      exec (.idleExpiry l) s = .next (chooseFrame (withLine (opened s) l { x with idle := .stopped }))) ∧
    (x.state = .active → x.idle = .expired → x.running = some p → pr.idleAllowed = true → x.powerSave = true →
      exec (.idleExpiry l) s = .next (finish (triggerReshare { withLine (opened s) l
          { x with state := .idleLow, cost := pr.idleMw, ceiling := pr.trickleKbps, idle := .stopped
                   mode := .trickle p pr.trickleKbps } with
        out := modeMessage l x.mode (.trickle p pr.trickleKbps)
        notes := { scan := pr.idleMw < x.cost } })))

/-! ## Capacity and the reference (R70 to R75, R164) -/

namespace Sys2Proof.Claims

/-- R73: the effective capacity. -/
def capacity (u : State) : Nat :=
  if u.uplink.up then
    if u.tables.uplink.pinned = 0 then u.uplink.reported * u.tables.uplink.headroom / 100 else u.tables.uplink.pinned
  else 0

/-- R73 to R75: the effective capacity is re-evaluated: the candidate is kept as effective, and where R74 accepts it, it becomes the
basis, a reshare is triggered, and CAPACITY_CHANGE is raised. -/
def reevaluated (u : State) : State :=
  let c := capacity u
  let b := u.uplink.basis
  if c ≠ b ∧ (c = 0 ∨ b = 0 ∨ u.tables.uplink.hysteresis * b ≤ ((c - b) + (b - c)) * 100) then
    raisePart .capacityChange (triggerReshare { u with uplink := { u.uplink with effective := c, basis := c } })
  else { u with uplink := { u.uplink with effective := c } }

/-- R164: the reference in use follows the settings and the presence of the recovered one; a change starts the millisecond again, and
a fall from UPLINK to LOCAL raises REFERENCE_LOST. -/
def followed (u : State) : State :=
  let t := u.tables.time
  let wanted : Reference :=
    if t.reference = .recovered ∧ u.uplink.up = true ∧ u.uplink.refValid = true then .recovered else .oscillator
  if u.time.inUse = wanted then u
  else
    let v := { u with time := { u.time with
      inUse := wanted, periodCount := 0, phase := 0
      msLength := (match wanted with | .oscillator => t.localKhz | .recovered => t.uplinkKhz) } }
    if wanted = .oscillator then raisePart .referenceLost v else v

/-- R122, R187: the DORMANT entry made in `v` discards a Restart response that is queued, so that `r` is the restart asked for, after the
messages of the entry: `s` is the state that the step found. R123: the entry may have armed wake_on_feed, which a warm one keeps. -/
def entryThenRestart (s v : State) (r : Host.Outcome State Fault Refusal) : Prop :=
  let sent := (dormantEntry (armFeed v)).out
  (s.mgmt.restartPending = some .warm →
    ∃ t, exec (.warmRestart s.pins.feedOk) (armFeed s) = .next t ∧ r = .next { t with out := sent ++ t.out }) ∧
  (s.mgmt.restartPending = some .cold →
    ∃ t, exec (.coldStart s.pins.straps s.pins.feedOk) s = .next t ∧ r = .next { t with out := sent ++ t.out })

/-- An uplink frame from the terminal (section 12.2): addresses, type, kind and what follows it. -/
def terminalFrame (dest src : BitVec 48) (kind : Byte) (rest : Bytes) : Bytes :=
  beBytes 6 dest.toNat ++ beBytes 6 src.toNat ++ [0x9A, 0x32, kind] ++ rest

end Sys2Proof.Claims

/-- R70, R73, R164: the port's reports of its link, and the terminal's marks of its recovered reference. A report that matches the
state held changes nothing, nor does one while the terminal is disabled in DORMANT; a loss ends a hold (R97), and a frame in
transmission is abandoned (R57, R101): a notification's leaves the last-notified state empty and starts the holdoff (R183), and the
responses of Enter Dormant and Restart make the entry (R122) and the restart (R187); an entry that discards a queued Restart response
is followed by the restart. The model's choices in it: assumptions 26, 30 and 31; that a restart takes the pins last sampled
(assumption 33); and what it makes of the terminal (assumptions 40 and 46). -/
def Obligations.UplinkLinkChanges : Prop :=
  ∀ s : State, s.stage = .run →
    exec .referenceMarkedValid s =
      .next (chooseFrame (followed { opened s with uplink := { s.uplink with refValid := true } })) ∧
    exec .referenceMarkedNotValid s =
      .next (chooseFrame (followed { opened s with uplink := { s.uplink with refValid := false } })) ∧
    (s.uplink.up = false → s.uplink.terminalOn = true → exec .uplinkLinkUp s = .next (chooseFrame
      (reevaluated (followed (raisePart .uplinkUp { opened s with uplink := { s.uplink with up := true } }))))) ∧
    ((s.uplink.up = true ∨ s.uplink.terminalOn = false) → exec .uplinkLinkUp s = .next (chooseFrame (opened s))) ∧
    (s.uplink.up = false → exec .uplinkLinkDown s = .next (opened s)) ∧
    (s.uplink.up = true →
      let u := reevaluated (followed (raisePart .uplinkDown { opened s with uplink := { s.uplink with up := false, hold := 0 } }))
      (s.uplink.tx = none → exec .uplinkLinkDown s = .next u) ∧
      (∀ c cs, s.uplink.tx = some .control → s.uplink.control = c :: cs → c.role = .response →
        exec .uplinkLinkDown s = .next { u with uplink := { u.uplink with tx := none, control := cs } }) ∧
      (∀ c cs, s.uplink.tx = some .control → s.uplink.control = c :: cs →
        let v := { u with uplink := { u.uplink with tx := none, control := cs } }
        (c.role = .notification → exec .uplinkLinkDown s = .next { v with
          mgmt := { v.mgmt with last := {}, notif := .holdoff, holdoff := s.tables.mgmt.holdoffMs } }) ∧
        (c.role = .dormantResponse → s.power.entryPending = false → exec .uplinkLinkDown s = .next v) ∧
        (c.role = .dormantResponse → s.power.entryPending = true → (∀ d ∈ cs, d.role ≠ .restartResponse) →
          exec .uplinkLinkDown s = .next (finish (dormantEntry (armFeed v)))) ∧
        (c.role = .dormantResponse → s.power.entryPending = true → (∃ d ∈ cs, d.role = .restartResponse) →
          entryThenRestart s v (exec .uplinkLinkDown s)) ∧
        (c.role = .restartResponse → s.mgmt.restartPending = some .warm →
          exec .uplinkLinkDown s = exec (.warmRestart s.pins.feedOk) s) ∧
        (c.role = .restartResponse → s.mgmt.restartPending = some .cold →
          exec .uplinkLinkDown s = exec (.coldStart s.pins.straps s.pins.feedOk) s)) ∧
      (∀ l f fs, s.uplink.tx = some (.line l) → (s.line l).upq = f :: fs →
        exec .uplinkLinkDown s = .next { withLine u l { droppedUp (s.line l) with upq := fs } with
          uplink := { u.uplink with tx := none }
          pool := { s.pool with
            free := s.pool.free + f.cells
            exhausted := s.pool.exhausted && (f.cells = 0 || s.pool.free + f.cells ≤ 64) } }))

/-- R71, R96, R59, R190: the terminal frames. A RATE_REPORT sets the reported rate, clamped, and re-evaluates; a HOLD sets the hold timer,
clamped; any other kind, and a frame too short for its kind or its field, is dropped with nothing counted. The model's choices in it:
that each of the four rows takes whatever frame it is given (assumption 6), and that a frame of the terminal type is a terminal
frame whatever its destination, the management address among them (assumption 36). -/
def Obligations.TerminalFramesTaken : Prop :=
  ∀ (s : State) (dest src : BitVec 48) (rest : Bytes), s.stage = .run → s.uplink.up = true → rest.length ≤ 1521 →
    (∀ kbps, kbps < 4294967296 → 4 + rest.length ≤ 1521 →
      exec (.rateReport (terminalFrame dest src 1 (beBytes 4 kbps ++ rest))) s = .next (chooseFrame
        (reevaluated { opened s with uplink := { s.uplink with reported := min 10000000 kbps } }))) ∧
    (∀ ms, ms < 65536 → 2 + rest.length ≤ 1521 →
      exec (.hold (terminalFrame dest src 2 (beBytes 2 ms ++ rest))) s =
        .next (chooseFrame { opened s with uplink := { s.uplink with hold := min 1000 ms } })) ∧
    (∀ kind, kind ≠ 1 → kind ≠ 2 →
      exec (.downstreamFrame (terminalFrame dest src kind rest)) s = .next (chooseFrame (opened s))) ∧
    (rest.length < 4 → exec (.rateReport (terminalFrame dest src 1 rest)) s = .next (chooseFrame (opened s))) ∧
    (rest.length < 2 → exec (.hold (terminalFrame dest src 2 rest)) s = .next (chooseFrame (opened s))) ∧
    (let bare := beBytes 6 dest.toNat ++ beBytes 6 src.toNat ++ [0x9A, 0x32]
     exec (.rateReport bare) s = .next (chooseFrame (opened s)) ∧ exec (.hold bare) s = .next (chooseFrame (opened s)) ∧
     exec (.downstreamFrame bare) s = .next (chooseFrame (opened s)))

/-! ## Frames from the terminal (R58 to R62, R171) -/

namespace Sys2Proof.Claims

/-- The frame's type field (section 12.2). -/
def typeIs (f : Bytes) (ty : Nat) : Prop := 14 ≤ f.length ∧ beNat ((f.drop 12).take 2) = ty

/-- R59: a management request to the part. -/
def isMgmt (s : State) (f : Bytes) : Prop := beNat (f.take 6) = s.tables.mgmt.mgmtAddress.toNat ∧ typeIs f 0x9A31

/-- R59: subscriber traffic. -/
def isSubscriber (s : State) (f : Bytes) : Prop := f.length ≤ 1536 ∧ ¬ isMgmt s f ∧ ¬ typeIs f 0x9A32

/-- R60, R63: the frame's tag is held by a valid Forwarding entry that names the line. -/
def tagged (s : State) (f : Bytes) (l : LineNo) : Prop :=
  typeIs f 0x9A30 ∧ ∃ i : Fin 192, (s.tables.forwarding[i]).valid = true ∧
    (s.tables.forwarding[i]).tag = beNat ((f.drop 14).take 2) % 4096 ∧ (s.tables.forwarding[i]).line = lineNumber l

/-- R63, R65: in the Forwarding Table no two valid entries hold the same tag, and a valid entry names a line and a tag in range. -/
def forwardingGood (t : Vector Forward 192) : Prop :=
  (∀ i j : Fin 192, i ≠ j → t[i].valid = true → t[j].valid = true → t[i].tag ≠ t[j].tag) ∧
  (∀ i : Fin 192, t[i].valid = true → 1 ≤ t[i].tag ∧ t[i].tag ≤ 4094 ∧ 1 ≤ t[i].line ∧ t[i].line ≤ 48)

/-- The line takes the frame (R60): in service, with room in its queue and in the pool. -/
def fitsDown (s : State) (l : LineNo) (f : Bytes) : Prop :=
  ((s.line l).state = .active ∨ (s.line l).state = .idleLow) ∧
    depth (s.line l).dnq + cells (f.length - 4) ≤ (s.service l).dnqCells

/-- The state with a downstream frame accepted (R61), before R19 and R62 are looked at: the frame joins the queue without its tag. -/
def acceptedDown (l : LineNo) (f : Bytes) (s : State) : State :=
  let x := s.line l
  withLine { opened s with pool := { s.pool with free := s.pool.free - cells (f.length - 4) } } l
    { x with
      dnq := x.dnq ++ [⟨f.take 12 ++ f.drop 16, none⟩]
      counters := { x.counters with framesDown := min 4294967295 (x.counters.framesDown + 1) }
      lastFrame := some s.time.now
      idle := if x.state = .active then .running 0 else x.idle }

end Sys2Proof.Claims

/-- R58, R60: the drops of a frame received from the terminal, in the order of the checks. -/
def Obligations.DownstreamDrops : Prop :=
  ∀ (s : State) (f : Bytes), s.stage = .run → s.uplink.up = true → forwardingGood s.tables.forwarding →
    let r := exec (.downstreamFrame f) s
    (1536 < f.length → r = .next (chooseFrame { opened s with
      pool := { s.pool with oversize := min 4294967295 (s.pool.oversize + 1) } })) ∧
    (isSubscriber s f → f.length < 68 → r = .next (chooseFrame { opened s with
      pool := { s.pool with undersize := min 4294967295 (s.pool.undersize + 1) } })) ∧
    (isSubscriber s f → 68 ≤ f.length → (∀ l, ¬ tagged s f l) → r = .next (chooseFrame { opened s with
      pool := { s.pool with unknownTag := min 4294967295 (s.pool.unknownTag + 1) } })) ∧
    (∀ l, isSubscriber s f → 68 ≤ f.length → tagged s f l → ¬ fitsDown s l f →
      r = .next (chooseFrame (withLine (opened s) l (droppedDown (s.line l))))) ∧
    (∀ l, isSubscriber s f → 68 ≤ f.length → tagged s f l → fitsDown s l f → s.pool.free < cells (f.length - 4) →
      r = .next (chooseFrame (short (withLine (opened s) l (droppedDown (s.line l))))))

/-- R61, R62 with R19: a frame accepted for a line joins its queue without its tag, and is delivered as far as the READY credit
goes; an IDLE_LOW line whose queue it leaves deeper than promote_cells and that holds no entry asks for PROMOTE before the delivery.
-/
def Obligations.DownstreamAccepted : Prop :=
  ∀ (s : State) (f : Bytes) (l : LineNo) (p : ProfileNo), s.stage = .run → s.uplink.up = true →
    forwardingGood s.tables.forwarding → isSubscriber s f → 68 ≤ f.length → tagged s f l → fitsDown s l f →
    cells (f.length - 4) ≤ s.pool.free → (s.line l).running = some p →
    let u := acceptedDown l f s
    let r := exec (.downstreamFrame f) s
    let deep := s.tables.power.promoteCells < depth (u.line l).upq ∨ s.tables.power.promoteCells < depth (u.line l).dnq
    ((s.line l).state = .active ∨ ¬ deep ∨ (waitKind s l).isSome → r = .next (chooseFrame (delivered l u))) ∧
    ((s.line l).state = .idleLow → deep → waitKind s l = none → r = .next (finish (delivered l
      (if admits (s.line l).cost (s.profile p).activeMw s then promoted l p u else addWait l .promote none u))))

/-- R171, R59: a management request joins the request queue, and is discarded while the queue holds 4; while the link is DOWN no
frame is received (R70). The model's choices in it: assumption 6. -/
def Obligations.RequestsJoinTheQueue : Prop :=
  ∀ (s : State) (f : Bytes), s.stage = .run →
    (s.uplink.up = true → f.length ≤ 1536 → isMgmt s f → s.mgmt.requests.length < 4 →
      exec (.requestArrival f) s = .next (chooseFrame { opened s with
        mgmt := { s.mgmt with requests := s.mgmt.requests ++ [f] } })) ∧
    (s.uplink.up = true → f.length ≤ 1536 → isMgmt s f → 4 ≤ s.mgmt.requests.length →
      exec (.requestArrival f) s = .next (chooseFrame (opened s))) ∧
    (s.uplink.up = false → exec (.requestArrival f) s = .next (opened s) ∧ exec (.downstreamFrame f) s = .next (opened s) ∧
      exec (.rateReport f) s = .next (opened s) ∧ exec (.hold f) s = .next (opened s))

/-! ## The transmitter (R57, R94, R95, R99 to R101) -/

namespace Sys2Proof.Claims

/-- R94: a line whose head frame its credit covers. -/
def eligibleLine (u : State) (l : LineNo) : Prop := ∃ f fs, (u.line l).upq = f :: fs ∧ f.data.length * 8 ≤ (u.line l).credit

/-- R100: a line that may send in the borrow class. -/
def borrowLine (u : State) (l : LineNo) : Prop := (u.service l).borrow = true ∧ (u.line l).upq ≠ []

/-- R100: how far a line stands behind a position in round-robin order. -/
def behind (pos : Nat) (l : LineNo) : Nat := (lineNumber l + 47 - pos) % 48

/-- R99: the link is UP, no hold runs, and the transmitter is free. -/
def mayChoose (u : State) : Prop := u.uplink.up = true ∧ u.uplink.hold = 0 ∧ u.uplink.tx = none

end Sys2Proof.Claims

/-- R99, R100, R95: the transmit arbiter's choice: the control queue first; then the first eligible line after the eligible position, its
credit debited by the frame's bits; then the first borrowing line after the borrow position, its credit untouched. -/
def Obligations.ArbiterChooses : Prop :=
  ∀ u : State, u.uplink.eligiblePos ≤ 48 → u.uplink.borrowPos ≤ 48 →
    (¬ mayChoose u → chooseFrame u = u) ∧
    (mayChoose u → u.uplink.control ≠ [] → chooseFrame u = { u with uplink := { u.uplink with tx := some .control } }) ∧
    (∀ l f fs, mayChoose u → u.uplink.control = [] → eligibleLine u l → (u.line l).upq = f :: fs →
      (∀ k, eligibleLine u k → behind u.uplink.eligiblePos l ≤ behind u.uplink.eligiblePos k) →
      chooseFrame u = { withLine u l { u.line l with credit := (u.line l).credit - f.data.length * 8 } with
        uplink := { u.uplink with tx := some (.line l), eligiblePos := lineNumber l } }) ∧
    (∀ l, mayChoose u → u.uplink.control = [] → (∀ k, ¬ eligibleLine u k) → borrowLine u l →
      (∀ k, borrowLine u k → behind u.uplink.borrowPos l ≤ behind u.uplink.borrowPos k) →
      chooseFrame u = { u with uplink := { u.uplink with tx := some (.line l), borrowPos := lineNumber l } }) ∧
    (u.uplink.control = [] → (∀ k, ¬ eligibleLine u k) → (∀ k, ¬ borrowLine u k) → chooseFrame u = u)

/-- R57, R101: the last byte of the frame in transmission is sent. A line's frame leaves its queue and its cells return; a response
leaves the control queue; a notification's leaving starts the holdoff (R183); the responses of Enter Dormant and Restart make the
entry (R122) and the restart (R187); an entry that discards a queued Restart response is followed by the restart. With nothing in
transmission nothing ends. The model's choices in it: assumptions 2 and 30; that a restart takes the pins last sampled
(assumption 33); and what it makes of the terminal (assumptions 40 and 46). -/
def Obligations.TransmissionEnds : Prop :=
  ∀ s : State, s.stage = .run →
    (s.uplink.tx = none → exec .transmissionEnd s = .next (chooseFrame (opened s))) ∧
    (∀ l f fs, s.uplink.tx = some (.line l) → (s.line l).upq = f :: fs →
      exec .transmissionEnd s = .next (chooseFrame { withLine (opened s) l { s.line l with upq := fs } with
        uplink := { s.uplink with tx := none }
        pool := { s.pool with
          free := s.pool.free + f.cells
          exhausted := s.pool.exhausted && (f.cells = 0 || s.pool.free + f.cells ≤ 64) }
        out := [.uplinkSent f.data] })) ∧
    (∀ c cs, s.uplink.tx = some .control → s.uplink.control = c :: cs →
      let u := { opened s with uplink := { s.uplink with tx := none, control := cs }, out := [.uplinkSent c.data] }
      (c.role = .response ∨ (c.role = .dormantResponse ∧ s.power.entryPending = false) →
        exec .transmissionEnd s = .next (chooseFrame u)) ∧
      (c.role = .notification → exec .transmissionEnd s = .next (chooseFrame { u with
        mgmt := { s.mgmt with notif := .holdoff, holdoff := s.tables.mgmt.holdoffMs } })) ∧
      (c.role = .dormantResponse → s.power.entryPending = true → (∀ d ∈ cs, d.role ≠ .restartResponse) →
        exec .transmissionEnd s = .next (finish (dormantEntry (armFeed u)))) ∧
      (c.role = .dormantResponse → s.power.entryPending = true → (∃ d ∈ cs, d.role = .restartResponse) →
        entryThenRestart s u (exec .transmissionEnd s)) ∧
      (c.role = .restartResponse → s.mgmt.restartPending = some .warm → ∃ t,
        exec (.warmRestart s.pins.feedOk) s = .next t ∧
        exec .transmissionEnd s = .next { t with out := .uplinkSent c.data :: t.out }) ∧
      (c.role = .restartResponse → s.mgmt.restartPending = some .cold → ∃ t,
        exec (.coldStart s.pins.straps s.pins.feedOk) s = .next t ∧
        exec .transmissionEnd s = .next { t with out := .uplinkSent c.data :: t.out }))

/-! ## The share (R78 to R90) -/

/-- R86 to R89: the share computation. It is oversubscribed when the clamped guarantees exceed the capacity; the amounts and the spare
make the capacity; each amount lies between the line's clamped guarantee and its ceiling, or between 0 and the guarantee when it is
oversubscribed; a spare of as many kbit/s as there are lines or more stands only where every line is at its ceiling. What the guarantees leave is
shared in rounds by the weights: the lines that a round's share would fill to their ceilings take their ceilings, and the share is as
if those were their guarantees; where it fills none, each line below its ceiling takes its whole share. -/
def Obligations.ShareComputation : Prop :=
  ∀ (lines : List ShareInput) (c : Nat), (∀ i ∈ lines, 0 < i.weight) →
    let r := computeShare lines c
    let g := (lines.map fun i => min i.guarantee i.ceiling).sum
    (r.oversubscribed = true ↔ c < g) ∧
    (r.amounts.map Prod.snd).sum + r.spare = c ∧
    r.amounts.map Prod.fst = lines.map ShareInput.line ∧
    (∀ (n : Nat) (i : ShareInput) (a : LineNo × Nat), lines[n]? = some i → r.amounts[n]? = some a →
      (r.oversubscribed = true → a.2 = min i.guarantee i.ceiling * c / g) ∧
      (r.oversubscribed = false → min i.guarantee i.ceiling ≤ a.2 ∧ a.2 ≤ i.ceiling)) ∧
    (r.oversubscribed = false → lines.length ≤ r.spare → lines ≠ [] → r.amounts.map Prod.snd = lines.map ShareInput.ceiling) ∧
    (r.oversubscribed = false →
      let below (i : ShareInput) : Bool := decide (i.guarantee < i.ceiling)
      let share (i : ShareInput) : Nat := (c - g) * i.weight / ((lines.filter below).map ShareInput.weight).sum
      let saturates (i : ShareInput) : Bool := below i && decide (i.ceiling - i.guarantee ≤ share i)
      ((∃ i ∈ lines, saturates i = true) →
        r = computeShare (lines.map fun i => if saturates i then { i with guarantee := i.ceiling } else i) c) ∧
      ((∀ i ∈ lines, saturates i = false) →
        r.amounts = lines.map fun i => (i.line, min i.guarantee i.ceiling + if below i then share i else 0)))

/-- R79 to R83: a trigger starts a reshare with a snapshot of the counted lines and the basis, or sets again where one is in flight;
a line that leaves the counted set gives its allocation to the spare, and joins the departed set of a flight that counted it. With
none in flight RESHARE_COMPLETION completes nothing. The model's choices in it: assumption 2. -/
def Obligations.ReshareTriggers : Prop :=
  ∀ (u : State) (l : LineNo),
    (∀ f, u.share.flight = some f → triggerReshare u = { u with share := { u.share with again := true } }) ∧
    (u.share.flight = none → ∃ f, triggerReshare u = { u with share := { u.share with flight := some f, again := false } } ∧
      f.c = u.uplink.basis ∧ f.departed = 0 ∧ (f.lines.map ShareInput.line).Nodup ∧
      (∀ i, i ∈ f.lines ↔ (u.line i.line).inService = true ∧ i.weight = (u.service i.line).weight ∧
        i.guarantee = (u.service i.line).guarantee ∧ i.ceiling = (u.line i.line).ceiling)) ∧
    (shareDepart l u).share.spare = u.share.spare + (u.line l).allocation ∧ ((shareDepart l u).line l).allocation = 0 ∧
    (∀ f, u.share.flight = some f → (shareDepart l u).share.again = true ∧ (shareDepart l u).share.flight = some
      (if (f.lines.map ShareInput.line).contains l then { f with departed := f.departed ||| single l } else f)) ∧
    (u.stage = .run → u.share.flight = none → exec .reshareCompletion u = .next (chooseFrame (opened u)))

/-- R84: a completed reshare is installed whole: to each line of the snapshot that has not departed and is counted now the smaller of its
amount and its present ceiling, to every other line 0, and the rest to the spare. OVERSUBSCRIBED is raised where the flag rises, and
a set again starts one new reshare. -/
def Obligations.ReshareInstalls : Prop :=
  ∀ s : State, s.stage = .run →
    (∀ f, s.share.flight = some f → (f.lines.map ShareInput.line).Nodup →
      let r := computeShare f.lines f.c
      ∃ (alloc : LineNo → Nat) (spare : Nat),
        (∀ l a, (l, a) ∈ r.amounts →
          alloc l = if mem f.departed l = false ∧ (s.line l).inService = true then min a (s.line l).ceiling else 0) ∧
        (∀ l, l ∉ f.lines.map ShareInput.line → alloc l = 0) ∧
        ((List.finRange 48).map alloc).sum + spare = f.c ∧
        let u := { opened s with
          lines := Vector.ofFn fun l => { s.line l with allocation := alloc l }
          share := { snapshot := f.c, spare := spare, oversubscribed := r.oversubscribed, flight := none, again := false } }
        let v := if r.oversubscribed = true ∧ s.share.oversubscribed = false then raisePart .oversubscribed u else u
        exec .reshareCompletion s = .next (chooseFrame (if s.share.again then triggerReshare v else v)))

/-! ## Admission and the Power Wait Queue (R112, R115 to R118) -/

namespace Sys2Proof.Claims

/-- R112: committed power, the costs of the lines and the test commitment. -/
def account (u : State) : Nat := ((List.finRange 48).map fun l => (u.line l).cost).sum + u.power.testCommit

/-- R109, R111: the budget in force: the mode's, 0 in DORMANT, and 0 from a restart until its first poll has ended. -/
def allowance (u : State) : Nat :=
  if u.power.awaiting then 0
  else match u.power.mode with
    | .normal => u.tables.power.budgetNormal
    | .holdup => u.tables.power.budgetHoldup
    | .reserve => u.tables.power.budgetReserve
    | .dormant => 0

/-- R7, R8, R19, R118: a scan has granted an entry: `y` is the record of its line after, which was `u.line e.line` before. -/
def granted (u : State) (e : WaitEntry) (y : Line) : Prop :=
  let x := u.line e.line
  (e.kind = .listen → x.state = .parked ∧
    y = { x with state := .listening, cost := u.tables.power.listenMw, mode := .listen, backoff := 0 }) ∧
  (e.kind = .train → x.state = .listening ∧ ∃ adv save, offers u e.line adv save ∧ y = { x with
    state := .training, cost := u.tables.power.trainMw, mode := .train, backoff := 0, ability := 0, powerSave := false
    attenuation := none, identity := none, exchange := some (openedExchange u e.line adv save) }) ∧
  (e.kind = .promote → x.state = .idleLow ∧ ∃ p, x.running = some p ∧ y = { x with
    state := .active, cost := (u.profile p).activeMw, ceiling := (u.profile p).upKbps, idle := .running 0
    mode := .run p (u.profile p).downKbps (u.profile p).upKbps })

/-- R116: the wait queue stands in its order: class, and then stamp. -/
def waitOrdered (q : List WaitEntry) : Prop := q.Pairwise fun a b => a.cls < b.cls ∨ (a.cls = b.cls ∧ a.stamp < b.stamp)

end Sys2Proof.Claims

/-- R112, R115, R116, R118: an admission is granted outside DORMANT when committed power, less what is released and with what is added,
stays within the budget. An entry made for a line that holds none joins the queue in its place, with its class and the next
stamp, and leaves the others' order as it is; where that stamp is 4294967295, the entries then held, it among them, are stamped
anew from 0 in order of their stamps, the queue's order standing, and the count is their number; in DORMANT none is made. A scan grants an entry only where the account allows: the first
that fits is granted, with its transition, and leaves the queue; the others keep their place; and when the scan has ended no entry
fits. The end of a step makes the scan that was noted, and then the run of the test arbiter that it calls for or that was noted. The model's
choices in it: one run where both call for it (assumption 10), and that an entry that does not match its line's state does not fit
(assumption 24). -/
def Obligations.AdmissionAndWaiting : Prop :=
  ∀ (u : State) (l : LineNo) (kind : WaitKind) (need : Option Nat) (released new : Nat),
    (admits released new u = true ↔ u.power.mode ≠ .dormant ∧ account u + new ≤ allowance u + released) ∧
    ((u.power.mode = .dormant ∨ (waitKind u l).isSome = true) → addWait l kind need u = u) ∧
    (u.power.mode ≠ .dormant → waitKind u l = none → u.power.stampCount < 4294967295 → waitOrdered u.power.wait →
      (∀ e ∈ u.power.wait, e.stamp < u.power.stampCount) → ∃ q,
        addWait l kind need u = { u with power := { u.power with wait := q, stampCount := u.power.stampCount + 1 } } ∧
        waitOrdered q ∧ q.Perm (⟨l, kind, (u.service l).shedClass, u.power.stampCount, need⟩ :: u.power.wait)) ∧
    (u.power.mode ≠ .dormant → waitKind u l = none → 4294967295 ≤ u.power.stampCount → waitOrdered u.power.wait →
      (u.power.wait.map WaitEntry.stamp).Nodup → (∀ e ∈ u.power.wait, e.stamp < u.power.stampCount) → ∃ q r,
        addWait l kind need u = { u with power := { u.power with wait := r, stampCount := u.power.wait.length + 1 } } ∧
        waitOrdered q ∧ q.Perm (⟨l, kind, (u.service l).shedClass, u.power.stampCount, need⟩ :: u.power.wait) ∧
        r.map (fun e => { e with stamp := 0 }) = q.map (fun e => { e with stamp := 0 }) ∧
        renumbered (q.map WaitEntry.stamp) (r.map WaitEntry.stamp)) ∧
    (∀ e, fits e u = true → account (grantEntry e u) ≤ allowance u) ∧
    (u.power.mode = .dormant ∨ u.power.awaiting = true → scan u = u) ∧
    (u.power.mode ≠ .dormant → u.power.awaiting = false → (u.power.wait.map WaitEntry.line).Nodup →
      let v := scan u
      (∀ e ∈ v.power.wait, fits e v = false) ∧
      (∀ before e after, u.power.wait = before ++ e :: after → (∀ x ∈ before, fits x u = false) → fits e u = true →
        e ∉ v.power.wait) ∧
      v.power.wait.Sublist u.power.wait ∧
      (∀ e ∈ u.power.wait, e ∉ v.power.wait → granted u e (v.line e.line)) ∧
      (∀ l, (∀ e ∈ u.power.wait, e.line = l → e ∈ v.power.wait) → v.line l = u.line l) ∧
      (account u ≤ allowance u → account v ≤ allowance u) ∧
      v = { u with
        lines := v.lines, share := v.share, power := { u.power with wait := v.power.wait }, out := v.out, notes := v.notes }) ∧
    (let quiet : Notes := { u.notes with scan := false, arbiter := false }
     let v := { u with notes := quiet }
     let scans := u.notes.scan = true ∧ u.power.mode ≠ .dormant ∧ u.power.awaiting = false
     (scans → settle u = { runArbiter (scan v) with notes := quiet }) ∧
     (¬ scans → u.notes.arbiter = true → settle u = { runArbiter v with notes := quiet }) ∧
     (¬ scans → u.notes.arbiter = false → settle u = v))

/-! ## The supply (R107 to R111) -/

namespace Sys2Proof.Claims

/-- R109, R111, R127: what follows a change of the settled feed state or the end of a poll: the restart's mode evaluation, the exit
condition in DORMANT, or the evaluation of the mode held. -/
def supplied (v : State) : State :=
  if v.power.awaiting then
    match evaluateMode v none with
    | .dormant => dormantEntry (armFeed v)
    | m => listenEntries { v with power := { v.power with mode := m, awaiting := false } }
  else if v.power.mode = .dormant then testExit v
  else if evaluateMode v (some v.power.mode) = v.power.mode then v
  else if evaluateMode v (some v.power.mode) = .dormant then dormantEntry (armFeed v)
  else changeMode (evaluateMode v (some v.power.mode)) v

/-- R108: the battery state after a poll that has ended with a reading, clamped, or without one. -/
def polled (reading : Option Int) (p : PowerCtl) : PowerCtl :=
  match reading with
  | some v => { p with polling := false, failures := 0, sample := some (max (-100000) (min 100000 v)) }
  | none =>
    if p.failures < 2 then { p with polling := false, failures := p.failures + 1 }
    else { p with polling := false, failures := 3, sample := none }

end Sys2Proof.Claims

/-- R109: the mode that the settled feed state and the battery sample give; `held` is the mode held. R107, R108: FEED_SETTLED,
POLL_START, POLL_RESULT and POLL_TIMEOUT. The settled feed state takes the pin's level; a poll starts 1000 ms after the last one; it
ends with a reading, or without one, the third failure in turn losing the sample; and the mode is then evaluated. A command that is
not due changes nothing. R126, R127: in DORMANT the feed's return is a wake event, and every such change tests the exit. The model's
choices in it: assumptions 2, 18, 21, 33 and 37. -/
def Obligations.SupplyInputs : Prop :=
  (∀ (s : State) (held : Option Mode),
    let t := s.tables.power
    (s.power.settled = true → evaluateMode s held = .normal) ∧
    (s.power.settled = false → s.power.sample = none → evaluateMode s held = .reserve) ∧
    (∀ v, s.power.settled = false → s.power.sample = some v →
      (v < t.cutoffMv → evaluateMode s held = .dormant) ∧
      (t.cutoffMv ≤ v → v < t.reserveMv → evaluateMode s held = .reserve) ∧
      (t.cutoffMv ≤ v → t.reserveMv ≤ v → v < t.recoverMv → held = some .reserve → evaluateMode s held = .reserve) ∧
      (t.cutoffMv ≤ v → t.reserveMv ≤ v → held ≠ some .reserve → evaluateMode s held = .holdup) ∧
      (t.cutoffMv ≤ v → t.reserveMv ≤ v → t.recoverMv ≤ v → evaluateMode s held = .holdup))) ∧
  (∀ s : State, s.stage = .run →
    (s.power.settleDue = false → exec .feedSettled s = .next (chooseFrame (opened s))) ∧
    (s.power.settleDue = true →
      let v := { opened s with power := { s.power with settled := s.pins.feedOk, settleCount := 0, settleDue := false } }
      (s.power.awaiting = true → s.power.mode ≠ .dormant → exec .feedSettled s = .next (chooseFrame v)) ∧
      (s.power.awaiting = false → s.power.mode ≠ .dormant → exec .feedSettled s = .next (closed (supplied v))) ∧
      (s.power.mode = .dormant → exec .feedSettled s =
        .next (closed (testExit (if s.pins.feedOk then wakeEvent .feed 0 v else v))))) ∧
    ((s.power.polling = true ∨ s.power.pollTimer < 1000) → exec .pollStart s = .next (chooseFrame (opened s))) ∧
    (s.power.polling = false → 1000 ≤ s.power.pollTimer → exec .pollStart s = .next (chooseFrame { opened s with
      power := { s.power with polling := true, pollTimer := 0 }
      out := [.pollBattery] })) ∧
    (∀ reading, s.power.polling = false → exec (.pollResult reading) s = .next (chooseFrame (opened s))) ∧
    (∀ reading, s.power.polling = true →
      exec (.pollResult reading) s = .next (closed (supplied { opened s with power := polled reading s.power }))) ∧
    ((s.power.polling = false ∨ s.power.pollTimer < 50) → exec .pollTimeout s = .next (chooseFrame (opened s))) ∧
    (s.power.polling = true → 50 ≤ s.power.pollTimer →
      exec .pollTimeout s = .next (closed (supplied { opened s with power := polled none s.power })))) ∧
  (∀ v : State, v.power.mode = .dormant →
    (v.power.wakeTaken = true → carries v → leavesDormant v (testExit v)) ∧
    (¬ (v.power.wakeTaken = true ∧ carries v) → testExit v = v) ∧
    woken { v with power := { v.power with latches := { v.power.latches with feed := true } } }
      (v.tables.power.wakeOnFeed = true) ⟨.feed, 0, v.time.now⟩ (wakeEvent .feed 0 v))

/-- R110, R111, R118: a change of mode raises MODE_CHANGE, sheds where committed power exceeds the new budget, scans where the
budget rises, and tells the test arbiter; the shed is stated by itself. A restart's evaluation gives every PARKED line that holds
none a LISTEN entry, and scans. -/
def Obligations.ModeChangesAndRestartEntries : Prop :=
  (∀ (m : Mode) (u : State), m ≠ .dormant → u.power.awaiting = false →
    let v := raisePart .modeChange { u with power := { u.power with mode := m } }
    (account v ≤ allowance v → changeMode m u = { v with
      notes := { v.notes with scan := v.notes.scan || decide (allowance u < allowance v), arbiter := true } }) ∧
    (allowance v < account v → changeMode m u = { shed v with notes := { (shed v).notes with scan := true, arbiter := true } })) ∧
  (∀ u : State, u.power.mode ≠ .dormant → ∃ v : State, listenEntries u = v ∧ v.notes.scan = true ∧
    v = { u with power := { u.power with wait := v.power.wait, stampCount := v.power.stampCount }, notes := v.notes } ∧
    (∀ l, (u.line l).state = .parked → waitKind u l = none → waitKind v l = some .listen) ∧
    (∀ l, (u.line l).state ≠ .parked ∨ waitKind u l ≠ none → waitKind v l = waitKind u l))

namespace Sys2Proof.Claims

/-- R144: the bus enters RESTORE: PENDING steps become SKIPPED, the outstanding step is abandoned, the stage timer starts, and RELEASE
is sent. -/
def restoring (t : CurrentTest) (u : State) : State :=
  let skip : StepOutcome → StepOutcome := fun o => match o with
    | .pending => .skipped
    | .notRun => .notRun
    | .done => .done
    | .timedOut => .timedOut
    | .skipped => .skipped
  { u with
    test := { u.test with
      bus := .restore
      current := some { t with
        outcomes := ⟨skip t.outcomes.foreignV, skip t.outcomes.loopR, skip t.outcomes.cap, skip t.outcomes.insul⟩
        current := none, stageTimer := u.tables.test.restoreMs } }
    out := u.out ++ [.release (some t.req.line)] }

/-- A verdict set where none is (R143, R147). -/
def verdicted (v : Verdict) (t : CurrentTest) : CurrentTest :=
  { t with verdict := (match t.verdict with | some w => some w | none => some v) }

/-- R119: the actions of a shed in their order: the test; each line of class 2 and then of class 1 shed; each line of class 0 demoted;
each line of class 0 shed; in each step the highest line number first. -/
def shedActions (s : State) : List (State → State) :=
  let lines (c : Nat) : List LineNo := ((List.finRange 48).filter fun l => decide ((s.service l).shedClass = c)).reverse
  [fun v => if v.power.testCommit = 0 then v else giveUpTest v] ++ (lines 2).map shedLine ++ (lines 1).map shedLine ++
    (lines 0).map demote ++ (lines 0).map shedLine

/-- The state after the first `n` actions. -/
def afterActions (s : State) (n : Nat) : State := ((shedActions s).take n).foldl (fun v act => act v) s

/-- R24: a powered line has been shed: it is PARKED with no power, no mode and no exchange, out of service, its queues flushed and
counted, and SHED is raised for it. -/
def shedding (l : LineNo) (u v : State) : Prop :=
  let x := u.line l
  let y := v.line l
  y.state = .parked ∧ y.cost = 0 ∧ y.backoff = 0 ∧ y.failures = x.failures ∧ y.windowStart = x.windowStart ∧ y.retrains = x.retrains ∧
  (u.power.mode ≠ .dormant → y.mode = .off) ∧
  (x.inService = true → y.running = none ∧ y.upq = [] ∧ y.dnq = [] ∧ y.allocation = 0 ∧ y.credit = 0 ∧ y.ceiling = 0 ∧ y.ready = 0 ∧
    y.counters = { x.counters with
      dropsUp := min 65535 (x.counters.dropsUp + x.upq.length), dropsDown := min 65535 (x.counters.dropsDown + x.dnq.length) } ∧
    v.share.spare = u.share.spare + x.allocation) ∧
  (x.inService = false → y.exchange = none ∧ y.counters = x.counters) ∧
  waitKind v l = none ∧ (∀ k, k ≠ l → v.line k = u.line k ∧ waitKind v k = waitKind u k) ∧
  (kindEnabled u 3 = true → mem v.mgmt.pending.shed l = true) ∧
  v.test = u.test ∧ v.power.testCommit = u.power.testCommit

/-- R149: the test commitment has been given up, and a test in PREPARE or MEASURE aborted for power. -/
def testGivenUp (u v : State) : Prop :=
  v.power = { u.power with testCommit := 0 } ∧ v.lines = u.lines ∧ v.results = u.results ∧
  v.test.queue = u.test.queue ∧
  (∀ t, u.test.current = some t → (u.test.bus = .prepare ∨ u.test.bus = .measure) →
    v.test = (restoring (verdicted .abortedPower { t with commitHeld := false }) u).test ∧
    v.out = u.out ++ [.release (some t.req.line)]) ∧
  (∀ t, u.test.current = some t → (u.test.bus = .restore ∨ u.test.bus = .fault) →
    v.test = { u.test with current := some { t with commitHeld := false } } ∧ v.out = u.out) ∧
  (u.test.current = none → v.test = u.test)

end Sys2Proof.Claims

/-- R119 to R121, R24, R149: where committed power exceeds the budget, the shed takes the actions of R119 in their order, one at a time,
and stops as soon as the account is within the budget: the test first, then the lines of class 2 and of class 1, then those of class
0, demoted and then shed, the highest line number first. It always ends within the budget. Each line it moves to PARKED is given a
LISTEN entry and each demoted one a PROMOTE entry, in ascending line number, and a scan follows. With no test commitment the first
action does nothing. Where the budget holds, nothing is shed. The model's choices in it: assumption 25; and that a test given up has each step
that is still PENDING SKIPPED as the bus enters RESTORE (assumption 17). -/
def Obligations.ShedRestoresBudget : Prop :=
  (∀ s : State, account s ≤ allowance s → shed s = s) ∧
  (∀ s : State, (∀ l, (s.service l).shedClass ≤ 2) → (∀ l, (s.line l).powered = false → (s.line l).cost = 0) →
    allowance s < account s → ∃ n,
      let v := afterActions s n
      (∀ m, m < n → allowance s < account (afterActions s m)) ∧ account v ≤ allowance s ∧
      account (shed s) ≤ allowance (shed s) ∧ (shed s).lines = v.lines ∧ (shed s).notes.scan = true ∧
      shed s = { v with
        power := { v.power with wait := (shed s).power.wait, stampCount := (shed s).power.stampCount }, notes := (shed s).notes } ∧
      (∀ l, (s.line l).powered = false → v.line l = s.line l) ∧ v.tables = s.tables ∧ v.time = s.time ∧ v.results = s.results ∧
      (s.power.mode ≠ .dormant → ∀ l,
        ((s.line l).powered = true → (v.line l).state = .parked → waitKind (shed s) l = some .listen) ∧
        ((s.line l).state = .active → (v.line l).state = .idleLow →
          waitKind (shed s) l = some ((waitKind s l).getD .promote)) ∧
        ((v.line l).state = (s.line l).state → waitKind (shed s) l = waitKind s l)) ∧
      ((∀ e ∈ s.power.wait, e.stamp < s.power.stampCount) → (s.power.wait.map WaitEntry.stamp).Nodup →
        s.power.stampCount ≤ 4294967295 → ∀ a b, a ∈ (shed s).power.wait → b ∈ (shed s).power.wait →
          waitKind v a.line = none → waitKind v b.line = none → a.line < b.line → a.stamp < b.stamp)) ∧
  (∀ (u : State) (l : LineNo),
    ((u.line l).powered = true → shedding l u (shedLine l u)) ∧ ((u.line l).powered = false → shedLine l u = u) ∧
    (∀ p, (u.line l).state = .active → (u.line l).running = some p → (u.profile p).idleAllowed = true → (u.line l).powerSave = true →
      demote l u = triggerReshare { withLine u l { u.line l with
          state := .idleLow, cost := (u.profile p).idleMw, ceiling := (u.profile p).trickleKbps, idle := .stopped
          mode := .trickle p (u.profile p).trickleKbps } with
        out := u.out ++ modeMessage l (u.line l).mode (.trickle p (u.profile p).trickleKbps)
        notes := { u.notes with scan := u.notes.scan || decide ((u.profile p).idleMw < (u.line l).cost) } }) ∧
    ((u.line l).state ≠ .active ∨ (∀ p, (u.line l).running = some p → ¬ ((u.profile p).idleAllowed = true ∧ (u.line l).powerSave = true)) →
      demote l u = u) ∧
    testGivenUp u (giveUpTest u))

/-! ## DORMANT (R122 to R127) -/

namespace Sys2Proof.Claims

/-- R122: a wake source is armed. -/
def armed (t : Tables) : Prop :=
  t.power.wakeOnFeed = true ∨ t.power.wakeOnButton = true ∨ t.power.wakeOnEnergy = true ∨
    ∃ i : Fin 8, t.alarms[i].enabled = true ∧ t.alarms[i].action = .wake

/-- R25: the mode that DORMANT entry sends a line, `y` being its state after the entry: LISTEN to a PARKED line of class 0 where class-0
energy is armed, and OFF to every other. -/
def entryModeSent (v : State) (l : LineNo) (y : LineState) : LineMode :=
  if y = .parked ∧ (v.service l).shedClass = 0 ∧ v.tables.power.wakeOnEnergy = true then .listen else .off

/-- R25, R104: the record of a line after DORMANT entry. A line that drew power is PARKED, out of service with its queues flushed and
counted, or out of its exchange; every other stays where it is. A TESTING line stays released for its test. -/
def asleep (v : State) (l : LineNo) : Line :=
  let x := v.line l
  let down : Line := { x with
    state := .parked, cost := 0, backoff := 0, mode := entryModeSent v l .parked, allocation := 0, credit := 0 }
  if x.inService = true then { down with
    running := none, ceiling := 0, upq := [], dnq := [], ready := 0, idle := .stopped
    counters := { x.counters with
      dropsUp := min 65535 (x.counters.dropsUp + x.upq.length), dropsDown := min 65535 (x.counters.dropsDown + x.dnq.length) } }
  else if x.state = .listening ∨ x.state = .training then { down with exchange := none }
  else { x with mode := if x.state = .testing then x.mode else entryModeSent v l x.state, allocation := 0, credit := 0 }

/-- R124, R134, R149: the Test Controller after DORMANT entry: its queue is empty and its quiet timer stopped, and a test in progress
has given up its commitment, in PREPARE and in MEASURE on its way to RESTORE with ABORTED_POWER where no verdict was set. -/
def testAsleep (v : State) (c : TestCtl) : Prop :=
  let quiet (c : TestCtl) : TestCtl := { c with queue := [], quiet := 0, quietDue := false }
  (v.test.current = none → c = quiet v.test) ∧
  ∀ t, v.test.current = some t →
    ((v.test.bus = .prepare ∨ v.test.bus = .measure) →
      c = quiet (restoring (verdicted .abortedPower { t with commitHeld := false }) v).test) ∧
    ((v.test.bus = .restore ∨ v.test.bus = .fault) → c = quiet { v.test with current := some { t with commitHeld := false } })

/-- R25, R57, R124, R149: what DORMANT entry sends: RELEASE to a test in PREPARE or MEASURE, the end of a line's frame in transmission,
LINE_MODE to each line, and the terminal's disable. -/
def entryMessages (v : State) : List OutMsg :=
  let release : List OutMsg := match v.test.current with
    | some t => if v.test.bus = .prepare ∨ v.test.bus = .measure then [.release (some t.req.line)] else []
    | none => []
  let cut : List OutMsg := match v.uplink.tx with
    | some (.line l) => if (v.line l).inService = true then (v.line l).upq.head?.toList.map fun f => .uplinkErrored f.data else []
    | _ => []
  release ++ cut ++ ((List.finRange 48).map fun l => OutMsg.lineMode l (entryModeSent v l (asleep v l).state)) ++ [.terminalOff]

/-- R25, R70, R76, R85, R104, R124, R134, R149, R183: DORMANT entry, from `v` to `u`. -/
def entersDormant (v u : State) : Prop :=
  u.power = { v.power with
    mode := .dormant, awaiting := false, entryPending := false, entryTimer := 0, testCommit := 0, wait := [], latches := {}
    wakeTaken := false } ∧
  testAsleep v u.test ∧ (∀ l, u.line l = asleep v l) ∧
  u.uplink = { v.uplink with
    up := false, terminalOn := false, reported := 0, effective := 0, basis := 0, hold := 0, eligiblePos := 0, borrowPos := 0
    control := [], tx := none } ∧
  u.share = {} ∧ u.pool.free = v.pool.free +
    ((List.finRange 48).map fun l => if (v.line l).inService then depth (v.line l).upq + depth (v.line l).dnq else 0).sum ∧
  (v.time.inUse = .oscillator → u.time = v.time) ∧
  (v.time.inUse = .recovered → u.time = { v.time with
    inUse := .oscillator, periodCount := 0, phase := 0, msLength := v.tables.time.localKhz }) ∧
  u.mgmt.requests = [] ∧
  (kindEnabled v 7 = true → u.mgmt.pending.hasPart .modeChange = true) ∧
  (kindEnabled v 6 = true → v.test.queue ≠ [] → u.mgmt.pending.hasPart .testDropped = true) ∧
  partRaised v (fun k => k = .modeChange ∨ (k = .testDropped ∧ v.test.queue ≠ [])) u ∧
  (∀ k, u.mgmt.pending.linesOfKind k = v.mgmt.pending.linesOfKind k) ∧
  (v.mgmt.notif = .queued → u.mgmt.notif = .holdoff ∧ u.mgmt.last = {} ∧ u.mgmt.holdoff = v.tables.mgmt.holdoffMs) ∧
  (v.mgmt.notif ≠ .queued → u.mgmt.last = v.mgmt.last ∧ u.mgmt.holdoff = v.mgmt.holdoff) ∧
  (u.notes.restart = true ↔ v.notes.restart = true ∨ ∃ c ∈ v.uplink.control, c.role = .restartResponse) ∧
  u = { v with
    power := u.power, test := u.test, lines := u.lines, uplink := u.uplink, share := u.share, pool := u.pool, time := u.time
    mgmt := { v.mgmt with
      requests := [], pending := u.mgmt.pending, last := u.mgmt.last, notif := u.mgmt.notif, holdoff := u.mgmt.holdoff }
    notes := u.notes, out := v.out ++ entryMessages v }

end Sys2Proof.Claims

/-- R25, R122 to R125, R134, R149: ENTRY_FALLBACK makes the pending DORMANT entry 100 ms after its acceptance, wake_on_feed set to yes
first where no wake source is armed. The entry, whatever makes it, leaves committed power 0. Every line that drew power is PARKED
and out of service, with no event; a test in PREPARE or MEASURE goes to RESTORE with ABORTED_POWER, unless a verdict is set, and
RELEASE sent, one in RESTORE or FAULT gives up its commitment alone; the wait queue, the Test Queue, the request queue and the
control queue are emptied, the terminal is off, and the share, the credits and the latches are cleared. MODE_CHANGE is raised, and
TEST_DROPPED once where the Test Queue held any entry, whose removals write no record. LINE_MODE LISTEN goes to the PARKED lines of
class 0 where class-0 energy is armed, and OFF to every other line. R187: an entry that discards a queued Restart response is
followed by the restart. The model's choices in it: assumptions 2 and 30; that each step still PENDING is SKIPPED as the bus enters
RESTORE (assumption 17); that a TESTING line is sent OFF and stays released (assumption 29); that the entry keeps the terminal's mark
of its reference (assumption 23) and the last wake cause (assumption 42), and ends the wait for a restart's first poll (assumption
50); that a restart takes the pins last sampled (assumption 33); and what it makes of the terminal (assumptions 40 and 46). -/
def Obligations.DormantEntryLeavesNothingCommitted : Prop :=
  (∀ s : State, s.stage = .run →
    ((s.power.entryPending = false ∨ s.power.entryTimer < 100) → exec .entryFallback s = .next (chooseFrame (opened s))) ∧
    (s.power.entryPending = true → 100 ≤ s.power.entryTimer → (∃ c ∈ s.uplink.control, c.role = .restartResponse) →
      entryThenRestart s (opened s) (exec .entryFallback s)) ∧
    (s.power.entryPending = true → 100 ≤ s.power.entryTimer → (∀ c ∈ s.uplink.control, c.role ≠ .restartResponse) →
      exec .entryFallback s = .next (finish (dormantEntry (armFeed (opened s)))))) ∧
  ∀ v : State,
    (armed v.tables → armFeed v = v) ∧
    (¬ armed v.tables → armFeed v =
      { v with tables := { v.tables with power := { v.tables.power with wakeOnFeed := true } } }) ∧
    entersDormant v (dormantEntry v) ∧
    allowance (dormantEntry v) = 0 ∧
    ((∀ l, (v.line l).powered = false → (v.line l).cost = 0) → account (dormantEntry v) = 0)

/-- R126, R127: BUTTON_PRESS. In DORMANT the latch of the button is set; the first armed source is the wake, with its cause and the
cabinet time, and the exit is made when the supply can carry the part. In any other mode it changes nothing. -/
def Obligations.ButtonWakesThePart : Prop :=
  ∀ s : State, s.stage = .run →
    let v := { opened s with power := { s.power with latches := { s.power.latches with button := true } } }
    let w := { v with power := { v.power with wakeTaken := true, lastCause := some ⟨.button, 0, s.time.now⟩ } }
    let armed := s.tables.power.wakeOnButton = true ∧ s.power.wakeTaken = false
    (s.power.mode ≠ .dormant → exec .buttonPress s = .next (chooseFrame (opened s))) ∧
    (s.power.mode = .dormant → ¬ armed → exec .buttonPress s = .next (chooseFrame v)) ∧
    (s.power.mode = .dormant → armed → ¬ carries s → exec .buttonPress s = .next (chooseFrame w)) ∧
    (s.power.mode = .dormant → armed → carries s → ∃ u : State,
      exec .buttonPress s = .next (finish u) ∧
      u.power.mode = evaluateMode s (some .reserve) ∧ u.power.wakeTaken = false ∧ u.power.lastCause = w.power.lastCause ∧
      u.uplink.terminalOn = true ∧ u.notes.scan = true ∧ u.notes.arbiter = true ∧
      (kindEnabled s 7 = true → u.mgmt.pending.hasPart .modeChange = true) ∧
      (kindEnabled s 8 = true → u.mgmt.pending.hasPart .wake = true ∧ u.mgmt.wakeDetail = w.power.lastCause) ∧
      (∀ l, (u.line l).state = (s.line l).state ∧ (u.line l).cost = (s.line l).cost) ∧
      (∀ l, (s.line l).state = .parked → (waitKind u l).isSome = true ∧ (u.line l).mode = .off))

/-! ## Tests (chapters 7 and 8) -/

namespace Sys2Proof.Claims

/-- The bus is in `bus` with the current test `t`. -/
def Testing (s : State) (bus : BusState) (t : CurrentTest) : Prop := s.stage = .run ∧ s.test.bus = bus ∧ s.test.current = some t

/-- R141: the next PENDING step, in the order FOREIGN_V, LOOP_R, CAP, INSUL, is commanded; with none left the bus enters RESTORE. -/
def commanded (t : CurrentTest) (u : State) : State :=
  let go (k : TestStep) : State := { u with
    test := { u.test with bus := .measure, current := some { t with current := some k, stageTimer := u.tables.test.measureMs } }
    out := u.out ++ [.measure t.req.line k] }
  if t.outcomes.foreignV = .pending then go .foreignV
  else if t.outcomes.loopR = .pending then go .loopR
  else if t.outcomes.cap = .pending then go .cap
  else if t.outcomes.insul = .pending then go .insul
  else restoring t u

end Sys2Proof.Claims

namespace Sys2Proof.Claims

/-- R129: the priority of a record, the highest of its origins. -/
def rank (r : TestReq) : Nat := if r.origins.getLsbD 0 then 0 else if r.origins.getLsbD 1 then 1 else 2

/-- R133: the Test Queue stands in its order: priority, and then stamp. -/
def testOrdered (q : List TestReq) : Prop := q.Pairwise fun a b => rank a < rank b ∨ (rank a = rank b ∧ a.stamp < b.stamp)

/-- R133: at most one entry per line, stamps that differ, and in order. -/
def testQueueGood (q : List TestReq) : Prop :=
  (q.map TestReq.line).Nodup ∧ (q.map TestReq.stamp).Nodup ∧ testOrdered q

/-- R136: the arbiter's run skips the entry: for the window, unless it is on demand, or for power. -/
def skipped (u : State) (e : TestReq) : Bool :=
  (!e.origins.getLsbD 0 && (!u.time.windowOpen || decide (u.power.mode = .reserve))) ||
    decide (allowance u + (u.line e.line).cost < account u + u.tables.test.testMw)

/-- R137: the quiet check holds an entry back that is not forced: its line is in service and has carried a frame within quiet_ms. -/
def unquiet (u : State) (e : TestReq) : Bool :=
  !e.force && (u.line e.line).inService &&
    (match (u.line e.line).lastFrame with | some t => decide (u.time.now - t < u.tables.test.quietMs) | none => false)

/-- The entry without its stamp. -/
def unstamped (e : TestReq) : TestReq := { e with stamp := 0 }

/-- R137, R134: the entries `ds` of the queue have been deferred in turn, `u` being the state before and `v` after. Each has its defer count
one higher; one that has come to max_defers has left the queue with a record of DEFERRED_OUT and TEST_DROPPED; the others stand last
among the entries of their priority, in turn; and the quiet timer has started again, an expiry not yet taken being withdrawn. The
others of the queue are as they were. -/
def deferred (u : State) (ds : List TestReq) (v : State) : Prop :=
  let out (e : TestReq) : Bool := decide (u.tables.test.maxDefers ≤ e.defers + 1)
  let stays (p : Nat) : List TestReq := u.test.queue.filter fun e => decide (rank e = p ∧ e ∉ ds)
  let again (p : Nat) : List TestReq :=
    (ds.filter fun e => decide (rank e = p) && !out e).map fun e => ({ e with defers := e.defers + 1 } : TestReq)
  let ranked (p : Nat) : List TestReq := (stays p ++ again p).map unstamped
  v.test.queue.map unstamped = ranked 0 ++ ranked 1 ++ ranked 2 ∧
  (∀ e ∈ v.test.queue, e.stamp < v.test.stampCount) ∧ testQueueGood v.test.queue ∧
  (∀ e ∈ ds, out e = true → v.results[e.line] =
    { verdict := some .deferredOut, endTime := u.time.now, origins := e.origins, tag := e.tag, steps := e.steps }) ∧
  (∀ l : LineNo, (∀ e ∈ ds, out e = true → e.line ≠ l) → v.results[l] = u.results[l]) ∧
  ((∃ e ∈ ds, out e = true) → kindEnabled u 6 = true → v.mgmt.pending.hasPart .testDropped = true) ∧
  ((∀ e ∈ ds, out e = false) → v.mgmt = u.mgmt) ∧
  v.test.quiet = (if ds = [] then u.test.quiet else u.tables.test.quietMs) ∧
  v.test.quietDue = (if ds = [] then u.test.quietDue else false) ∧
  v = { u with
    test := { u.test with
      queue := v.test.queue, stampCount := v.test.stampCount, quiet := v.test.quiet, quietDue := v.test.quietDue }
    results := v.results, mgmt := v.mgmt }

/-- R138: the test of an entry has started, `v` being the state before and `w` after: the entry has left the queue, the line is TESTING
and out of service with nothing committed, test_mW is committed, the bus is in PREPARE with the current test record at its start,
and RELEASE_FOR_TEST and CONNECT are sent. -/
def testStarted (v : State) (e : TestReq) (w : State) : Prop :=
  let x := v.line e.line
  let y := w.line e.line
  let step (k : Nat) : StepOutcome := if e.steps.getLsbD k then .pending else .notRun
  w.test = { v.test with
    queue := v.test.queue.filter fun d => d.line ≠ e.line
    bus := .prepare
    current := some
      { req := e, outcomes := ⟨.pending, step 1, step 2, step 3⟩, current := none, timeouts := 0
        values := { foreign := none, loop := none, capacitance := none, length := none, insulation := none }, verdict := none
        stageTimer := v.tables.test.prepareMs, commitHeld := true, retry := false, startTime := v.time.now, judgement := none } } ∧
  w.power.testCommit = v.tables.test.testMw ∧ y.state = .testing ∧ y.cost = 0 ∧ y.backoff = 0 ∧ y.failures = x.failures ∧
  (x.inService = true → y.running = none ∧ y.upq = [] ∧ y.dnq = [] ∧ y.allocation = 0 ∧ y.credit = 0 ∧
    y.counters = { x.counters with
      dropsUp := min 65535 (x.counters.dropsUp + x.upq.length), dropsDown := min 65535 (x.counters.dropsDown + x.dnq.length) }) ∧
  (x.state = .training → y.exchange = none) ∧ waitKind w e.line = none ∧
  OutMsg.releaseForTest e.line ∈ w.out ∧ OutMsg.connect e.line ∈ w.out ∧
  (x.cost ≤ v.tables.test.testMw → ∀ k, k ≠ e.line → w.line k = v.line k ∧ waitKind w k = waitKind v k) ∧
  w.tables = v.tables ∧ w.time = v.time ∧ w.results = v.results ∧ w.mgmt = v.mgmt

end Sys2Proof.Claims

/-- R135 to R138, R134: a run of the test arbiter, made while the bus is IDLE and outside DORMANT. It takes the entries held at its start
in the order of the queue: one that is skipped stays where it is, one that the quiet check holds back is deferred, or removed at
max_defers, and the first that is neither starts its test and ends the run. The model's choices in it: assumptions 11, 27 and 43. -/
def Obligations.ArbiterStartsTest : Prop :=
  ∀ u : State,
    (u.test.bus ≠ .idle ∨ u.power.mode = .dormant → runArbiter u = u) ∧
    (u.test.bus = .idle → u.power.mode ≠ .dormant → testQueueGood u.test.queue → (∀ e ∈ u.test.queue, e.stamp < u.test.stampCount) →
      let held (q : List TestReq) : List TestReq := q.filter fun e => !skipped u e && unquiet u e
      ((∀ e ∈ u.test.queue, skipped u e = true ∨ unquiet u e = true) → deferred u (held u.test.queue) (runArbiter u)) ∧
      (∀ before e after, u.test.queue = before ++ e :: after →
        (∀ d ∈ before, skipped u d = true ∨ unquiet u d = true) → skipped u e = false → unquiet u e = false →
        ∃ v d, deferred u (held before) v ∧ d ∈ v.test.queue ∧ unstamped d = unstamped e ∧ testStarted v d (runArbiter u)))

/-- R137, R140, R142, R145, R146, R150: QUIET_TIMER_EXPIRY, CONNECT_CONFIRM and the timeouts of the bus, that of a restore being stated
with the end of a test. A confirm that is not for the test line in PREPARE, a timeout that is not due, and a timeout of another
stage than the bus is in, change nothing. The model's choices in it: assumptions 2 and 17. -/
def Obligations.TestStagesTimeOut : Prop :=
  ∀ s : State, s.stage = .run →
    (s.test.quietDue = true → exec .quietTimerExpiry s = .next (finish { opened s with
      test := { s.test with quietDue := false }, notes := { arbiter := true } })) ∧
    (s.test.quietDue = false → exec .quietTimerExpiry s = .next (chooseFrame (opened s))) ∧
    (∀ t, Testing s .prepare t → exec (.connectConfirm (lineNumber t.req.line)) s = .next (chooseFrame (commanded
      { t with judgement := some ⟨s.tables.test.hazardMv, s.tables.test.openOhms, s.tables.test.insulMinKohm,
                                  s.tables.test.capPerKm⟩ }
      { opened s with test := { s.test with bus := .measure } }))) ∧
    (∀ n, (∀ t, Testing s .prepare t → lineNumber t.req.line ≠ n) →
      exec (.connectConfirm n) s = .next (chooseFrame (opened s))) ∧
    (∀ t, Testing s .prepare t → t.stageTimer = 0 →
      exec .prepareTimeout s = .next (chooseFrame (restoring (verdicted .abortedFault t) (opened s)))) ∧
    (∀ t k, Testing s .measure t → t.stageTimer = 0 → t.current = some k →
      let t1 := { t with outcomes := t.outcomes.put k .timedOut, current := none, timeouts := t.timeouts + 1 }
      exec .measureTimeout s = .next (chooseFrame (if 2 ≤ t1.timeouts then restoring (verdicted .abortedFault t1) (opened s)
        else commanded t1 (opened s)))) ∧
    (∀ t, Testing s .fault t → t.stageTimer = 0 → exec .retryTimeout s = .next (chooseFrame { opened s with
      test := { s.test with current := some { t with retry := false } } })) ∧
    ((∀ t, ¬ Testing s .prepare t) → exec .prepareTimeout s = .next (chooseFrame (opened s))) ∧
    ((∀ t k, Testing s .measure t → t.current ≠ some k) → exec .measureTimeout s = .next (chooseFrame (opened s))) ∧
    ((∀ t, ¬ Testing s .restore t) → exec .restoreTimeout s = .next (chooseFrame (opened s))) ∧
    ((∀ t, ¬ Testing s .fault t) → exec .retryTimeout s = .next (chooseFrame (opened s))) ∧
    (∀ t, s.test.current = some t → t.stageTimer ≠ 0 →
      exec .prepareTimeout s = .next (chooseFrame (opened s)) ∧ exec .measureTimeout s = .next (chooseFrame (opened s)) ∧
      exec .restoreTimeout s = .next (chooseFrame (opened s)) ∧ exec .retryTimeout s = .next (chooseFrame (opened s)))

/-- R141, R143, R150, R152 to R156: the result of the current step. Its values are clamped and kept with what the part computes from
them; a CAP result is delivered as the line's estimated loop length; a FOREIGN_V result with a voltage at hazard_mv or above halts
the test; and otherwise the next step is commanded. Any other result is ignored: one of another step or another line, and every one
outside MEASURE. -/
def Obligations.MeasurementResultsTaken : Prop :=
  (∀ (s : State) (n : Nat) (m : Measurement), s.stage = .run → (∀ t, ¬ Testing s .measure t) →
    exec (.measurementResult n m) s = .next (chooseFrame (opened s))) ∧
  ∀ (s : State) (t : CurrentTest) (j : Judgement) (m : Measurement), Testing s .measure t → t.judgement = some j →
    let n := lineNumber t.req.line
    let r := exec (.measurementResult n m) s
    let volt (v : Int) : Int := max (-200000) (min 200000 v)
    let source (v : Int) : Nat := (max 1 (min 200000 v)).toNat
    let current (v : Int) : Nat := (max 0 (min 100000 v)).toNat
    let took (k : TestStep) (vals : Values) : CurrentTest :=
      { t with outcomes := t.outcomes.put k .done, current := none, timeouts := 0, values := vals }
    (∀ a b c, m = .foreignV a b c → t.current = some .foreignV →
      let t1 := took .foreignV { t.values with foreign := some (volt a, volt b, volt c) }
      let hazard := j.hazardMv ≤ (volt a).natAbs ∨ j.hazardMv ≤ (volt b).natAbs ∨ j.hazardMv ≤ (volt c).natAbs
      (hazard → r = .next (chooseFrame (restoring (verdicted .hazard t1) (opened s)))) ∧
      (¬ hazard → r = .next (chooseFrame (commanded t1 (opened s))))) ∧
    (∀ v i, m = .loopR v i → t.current = some .loopR →
      r = .next (chooseFrame (commanded (took .loopR { t.values with loop := some (source v, current i,
        if current i = 0 then 9999999 else min 9999999 (source v * 1000 / current i), decide (current i = 0)) }) (opened s)))) ∧
    (∀ c, m = .cap c → t.current = some .cap →
      let nF := (max 0 (min 10000 c)).toNat
      let metres := min 65535 (nF * 1000 / j.capPerKm)
      r = .next (chooseFrame (commanded (took .cap { t.values with capacitance := some nF, length := some metres })
        (withLine (opened s) t.req.line { s.line t.req.line with loopLength := some metres })))) ∧
    (∀ v i, m = .insul v i → t.current = some .insul →
      r = .next (chooseFrame (commanded (took .insul { t.values with insulation := some (source v, current i,
        if current i = 0 then 9999999 else source v / current i) }) (opened s)))) ∧
    (t.current ≠ some (stepOf m) → r = .next (chooseFrame (opened s))) ∧
    (∀ k, k ≠ n → exec (.measurementResult k m) s = .next (chooseFrame (opened s)))

namespace Sys2Proof.Claims

/-- R23, R144 to R146: the record of a line returned from its test in state `st`. Its mode is OFF, or LISTEN where it is PARKED in
DORMANT, of class 0, with class-0 energy armed (R25); a return to PARKED or DOWN clears the backoff; the rest stays. -/
def returned (s : State) (l : LineNo) (st : LineState) : Line :=
  { s.line l with
    state := st, backoff := if st = .blocked then (s.line l).backoff else 0
    mode := if st = .parked ∧ s.power.mode = .dormant ∧ (s.service l).shedClass = 0 ∧ s.tables.power.wakeOnEnergy = true then .listen
      else .off }

/-- R23, R144 to R146: in the step from `s` to `u` line `l` is returned from its test in state `st`: its mode is sent where it changes,
and outside DORMANT a PARKED line that holds no entry has a LISTEN entry; no other line and no other entry is touched. -/
def givenBack (s : State) (l : LineNo) (st : LineState) (u : State) : Prop :=
  u.lines = s.lines.set l (returned s l st) ∧ u.out = modeMessage l (s.line l).mode (returned s l st).mode ∧
  ∀ k, waitKind u k =
    if k = l ∧ st = .parked ∧ s.power.mode ≠ .dormant ∧ waitKind s l = none then some .listen else waitKind s k

end Sys2Proof.Claims

/-- R144, R145, R146, R158, R159: the end of a test. The RELEASE confirm of a restore releases a held commitment, writes the record, raises
TEST_DONE and, for a hazard, TEST_HAZARD, returns the line BLOCKED for a hazard, DOWN where it is not enabled and PARKED otherwise, and frees the bus. A restore
that times out writes the record with ABORTED_FAULT, unless it is HAZARD, raises the same events, leaves the line BLOCKED and the bus in FAULT, and keeps the
commitment; the confirm that comes then clears the fault, and one that answers a retry also returns the line, DOWN where it is not
enabled and PARKED otherwise. A line returned PARKED outside DORMANT has a LISTEN entry. A confirm for another line is ignored. -/
def Obligations.TestsEnd : Prop :=
  ∀ (s : State) (t : CurrentTest),
    let l := t.req.line
    let enabled := (s.service l).enabled
    let record (v : CurrentTest) : ResultRec :=
      { verdict := some (verdictOf v), endTime := s.time.now, origins := v.req.origins, tag := v.req.tag, steps := v.req.steps
        outcomes := v.outcomes, values := v.values }
    (Testing s .restore t → ∃ u, exec (.releaseConfirm (lineNumber l)) s = .next (finish u) ∧
      u.test = { s.test with bus := .idle, current := none } ∧ u.results = s.results.set l (record t) ∧
      givenBack s l (if t.verdict = some .hazard then .blocked else if enabled then .parked else .down) u ∧
      (kindEnabled s 4 = true → u.mgmt.pending.hasPart .testDone = true) ∧
      (kindEnabled s 5 = true → verdictOf t = .hazard → u.mgmt.pending.hasPart .testHazard = true) ∧
      partRaised s (fun k => k = .testDone ∨ (k = .testHazard ∧ verdictOf t = .hazard)) u ∧
      u.power = { s.power with
        testCommit := if t.commitHeld then 0 else s.power.testCommit, wait := u.power.wait, stampCount := u.power.stampCount } ∧
      u = { opened s with lines := u.lines, power := u.power, test := u.test, results := u.results, mgmt := u.mgmt, out := u.out
                          notes := { scan := true, arbiter := true } }) ∧
    (Testing s .restore t → t.stageTimer = 0 → ∃ u,
      let t1 := { t with verdict := if t.verdict = some .hazard then some .hazard else some .abortedFault }
      exec .restoreTimeout s = .next (chooseFrame u) ∧ u.test = { s.test with bus := .fault, current := some t1 } ∧
      u.results = s.results.set l (record t1) ∧ givenBack s l .blocked u ∧ u.power = s.power ∧
      (kindEnabled s 4 = true → u.mgmt.pending.hasPart .testDone = true) ∧
      (kindEnabled s 5 = true → t.verdict = some .hazard → u.mgmt.pending.hasPart .testHazard = true) ∧
      partRaised s (fun k => k = .testDone ∨ (k = .testHazard ∧ t.verdict = some .hazard)) u ∧
      u = { opened s with lines := u.lines, test := u.test, results := u.results, mgmt := u.mgmt, out := u.out }) ∧
    (Testing s .fault t → ∃ u, exec (.releaseConfirm (lineNumber l)) s = .next (finish u) ∧
      u.test = { s.test with bus := .idle, current := none } ∧ u.results = s.results ∧
      (t.retry = true → givenBack s l (if enabled then .parked else .down) u) ∧
      (t.retry = false → u.lines = s.lines ∧ u.out = [] ∧ u.power.wait = s.power.wait ∧ u.power.stampCount = s.power.stampCount) ∧
      u.power = { s.power with
        testCommit := if t.commitHeld then 0 else s.power.testCommit, wait := u.power.wait, stampCount := u.power.stampCount } ∧
      u = { opened s with lines := u.lines, power := u.power, test := u.test, out := u.out
                          notes := { scan := true, arbiter := true } }) ∧
    (s.stage = .run → (∀ b, Testing s b t → ∀ n, n ≠ lineNumber l →
      exec (.releaseConfirm n) s = .next (chooseFrame (opened s))))

/-- R157: the verdict of a test, the first of its table that applies. -/
def Obligations.VerdictOrder : Prop :=
  ∀ (t : CurrentTest) (j : Judgement), t.judgement = some j →
    let opened := t.outcomes.loopR = .done ∧ ∃ v i ohms flag, t.values.loop = some (v, i, ohms, flag) ∧ j.openOhms ≤ ohms
    let leaky := t.outcomes.insul = .done ∧ ∃ v i kohm, t.values.insulation = some (v, i, kohm) ∧ kohm < j.insulMinKohm
    let late := t.outcomes.foreignV = .timedOut ∨ t.outcomes.loopR = .timedOut ∨ t.outcomes.cap = .timedOut ∨
      t.outcomes.insul = .timedOut
    (∀ v, t.verdict = some v → verdictOf t = v) ∧
    (t.verdict = none → opened → verdictOf t = .openLoop) ∧
    (t.verdict = none → ¬ opened → leaky → verdictOf t = .lowInsulation) ∧
    (t.verdict = none → ¬ opened → ¬ leaky → late → verdictOf t = .incomplete) ∧
    (t.verdict = none → ¬ opened → ¬ leaky → ¬ late → verdictOf t = .pass)

/-! ## Management requests (R172 to R174, R176, R177) -/

namespace Sys2Proof.Claims

/-- What the header of a request carries beside its code and its length (section 12.2). -/
structure Header where
  dest : BitVec 48
  src : BitVec 48
  tag : Nat
  table : Nat
  first : Nat
  count : Nat

/-- The fields lie within their widths. -/
def Header.fits (h : Header) : Prop := h.tag < 65536 ∧ h.table < 256 ∧ h.first < 65536 ∧ h.count < 256

/-- A request frame whose length field holds `length` (section 12.2). -/
def requestOf (h : Header) (code length : Nat) (payload : Bytes) : Bytes :=
  beBytes 6 h.dest.toNat ++ beBytes 6 h.src.toNat ++ [0x9A, 0x31] ++ beBytes 1 code ++ beBytes 2 h.tag ++ beBytes 1 h.table ++
    beBytes 2 h.first ++ beBytes 1 h.count ++ beBytes 2 length ++ payload

/-- A request frame. -/
def request (h : Header) (code : Nat) (payload : Bytes) : Bytes := requestOf h code payload.length payload

/-- The row of the command table that processes a request, by its code and table. -/
def rowOf : Nat → Nat → Instr
  | 1, _ => .readEntries
  | 2, 1 => .writeService
  | 2, 2 => .writeProfile
  | 2, 3 => .writeProfileSettings
  | 2, 4 => .writeForwarding
  | 2, 5 => .writeUplinkSettings
  | 2, 6 => .writePowerTable
  | 2, 7 => .writeTestTable
  | 2, 8 => .writeTimeSettings
  | 2, 9 => .writeAlarm
  | 2, 10 => .writeEventEnable
  | 2, 11 => .writeManagementSettings
  | 3, _ => .readCounters
  | 4, _ => .readEvents
  | 5, _ => .clearEvents
  | 6, _ => .requestTest
  | 7, _ => .cancelTest
  | 8, _ => .unblockLine
  | 9, _ => .forceRetrain
  | 10, _ => .setTime
  | 11, _ => .enterDormant
  | 12, _ => .restart
  | 13, _ => .saveImage
  | _, _ => .unknownRequest

/-- The command is the row of some request. -/
def requestRow (c : Instr) : Prop := ∃ code table, c = rowOf code table

/-- The write entry size of a table (section 12.3). -/
def writeSize (table : Nat) : Nat := [0, 33, 22, 2, 4, 6, 33, 26, 13, 19, 3, 14].getD table 0

/-- The payload length a request has (section 12.2). -/
def payloadOf (h : Header) (code : Nat) : Nat :=
  if code = 2 then h.count * writeSize h.table else [0, 0, 0, 3, 0, 9, 3, 1, 1, 1, 6, 0, 1, 0].getD code 0

/-- A response to a request joins the tail of the control queue (R174): addressed from the management address as it stands, with code,
tag, status, count done, first refused index (0xFFFF for none) and payload. -/
def answered (h : Header) (code status done refused : Nat) (payload : Bytes) (role : CtlRole) (u : State) : State :=
  let frame := beBytes 6 h.src.toNat ++ beBytes 6 u.tables.mgmt.mgmtAddress.toNat ++ [0x9A, 0x31] ++ beBytes 1 code ++
    beBytes 2 h.tag ++ beBytes 1 status ++ beBytes 1 done ++ beBytes 2 refused ++ beBytes 2 payload.length ++ payload
  { u with uplink := { u.uplink with control := u.uplink.control ++ [⟨frame, role⟩] } }

/-- A response of a status alone. -/
def replied (h : Header) (code status : Nat) (u : State) : State := answered h code status 0 0xFFFF [] .response u

/-- The request is at the head of the queue and may be processed: the control queue has room, and no notification is due. -/
def Waiting (s : State) (f : Bytes) (rest : List Bytes) : Prop :=
  s.stage = .run ∧ s.mgmt.requests = f :: rest ∧ s.uplink.control.length < 4 ∧ s.mgmt.notif ≠ .due

/-- A request that may be processed, of the payload length its code asks for. -/
def Asked (s : State) (h : Header) (code : Nat) (payload : Bytes) (rest : List Bytes) : Prop :=
  Waiting s (request h code payload) rest ∧ h.fits ∧ payload.length = payloadOf h code ∧ payload.length < 65536

/-- The step opened, with the request at the head taken from the queue. -/
def taken (s : State) (rest : List Bytes) : State := { opened s with mgmt := { s.mgmt with requests := rest } }

/-- R183: something is new: a kind outside the LINE class, or a line in a LINE kind's set, that is pending and not last-notified. -/
def somethingNew (m : Mgmt) : Prop :=
  (∃ (k : LineEvent) (l : LineNo), mem (m.pending.linesOfKind k) l = true ∧ mem (m.last.linesOfKind k) l = false) ∨
  ∃ k : Fin 16, mem m.pending.part k = true ∧ mem m.last.part k = false

/-- The pending kinds as a set of bits (section 12.1). -/
def kindBits (e : EventSet) : Nat :=
  (if e.lineUp = 0 then 0 else 1) + (if e.lineLost = 0 then 0 else 2) + (if e.trainFail = 0 then 0 else 4) +
    (if e.shed = 0 then 0 else 8) + e.part.toNat * 16

/-- The class summary: LINE, TEST, POWER, UPLINK and SYSTEM (section 12.2). -/
def classBits (e : EventSet) : Nat :=
  (if kindBits e % 16 = 0 then 0 else 1) + (if e.part.toNat % 8 = 0 then 0 else 2) + (if e.part.toNat / 8 % 4 = 0 then 0 else 4) +
    (if e.part.toNat / 32 % 32 = 0 then 0 else 8) + (if e.part.toNat / 1024 = 0 then 0 else 16)

/-- Kinds and line sets as sent, 27 bytes. -/
def setBytes (e : EventSet) : Bytes :=
  beBytes 3 (kindBits e) ++ beBytes 6 e.lineUp.toNat ++ beBytes 6 e.lineLost.toNat ++ beBytes 6 e.trainFail.toNat ++
    beBytes 6 e.shed.toNat

/-- The payload of a notification, 43 bytes (section 12.2): a detail stands where its kind is pending. -/
def noticePayload (u : State) : Bytes :=
  let p := u.mgmt.pending
  let source : WakeSource → Nat := fun w => match w with | .feed => 0 | .button => 1 | .energy => 2 | .alarm => 3
  beBytes 6 u.time.now ++ beBytes 1 (classBits p) ++ setBytes p ++
    [if p.part.getLsbD 10 = true ∧ u.mgmt.restartDetail = some .warm then 1 else 0] ++
    (match u.mgmt.wakeDetail with
      | some c => if p.part.getLsbD 4 = true then beBytes 1 (source c.source) ++ beBytes 1 c.index ++ beBytes 6 c.time
                  else List.replicate 8 0
      | none => List.replicate 8 0)

/-- A due notification is built and placed (R184): the last-notified state becomes a copy of the pending state. -/
def notified (u : State) : State :=
  let frame := beBytes 6 u.tables.mgmt.stationAddress.toNat ++ beBytes 6 u.tables.mgmt.mgmtAddress.toNat ++
    [0x9A, 0x31, 0x80, 0, 0, 0, 0, 0xFF, 0xFF, 0, 43] ++ noticePayload u
  { u with
    mgmt := { u.mgmt with notif := .queued, last := u.mgmt.pending }
    uplink := { u.uplink with control := u.uplink.control ++ [⟨frame, .notification⟩] } }

/-- R183: there is a station to tell of something new. -/
def tellable (u : State) : Prop := u.tables.mgmt.stationAddress ≠ 0 ∧ somethingNew u.mgmt

end Sys2Proof.Claims

/-- R172, R173: the processing of the head of the request queue, and UNKNOWN_REQUEST. A frame too short for its header is discarded
with MALFORMED_REQUEST; a wrong length is answered MALFORMED with that event; an unknown code is answered UNKNOWN_REQUEST, and an
unknown table, or a read-only one in a write, BAD_TABLE. A due notification is placed first, and takes the last place. A command
with no request of its row to process changes nothing, which is the model's choice. The model's choices in it: assumptions 4 and 5;
and in the bytes of the notification placed, the first refused index 0xFFFF (assumption 44) and 0 for a detail whose kind is not
pending (assumption 15). -/
def Obligations.RequestProcessing : Prop :=
  ∀ s : State, s.stage = .run →
    (∀ c, requestRow c → (s.mgmt.requests = [] ∨ 4 ≤ s.uplink.control.length) → exec c s = .next (chooseFrame (opened s))) ∧
    (∀ c f rest, s.mgmt.requests = f :: rest → f.length < 23 → requestRow c → c ≠ .unknownRequest →
      exec c s = .next (chooseFrame (opened s))) ∧
    (∀ c h code length payload rest, s.mgmt.requests = requestOf h code length payload :: rest → h.fits → code < 256 → requestRow c →
      c ≠ rowOf code h.table → exec c s = .next (chooseFrame (opened s))) ∧
    (∀ f rest, Waiting s f rest → f.length < 23 →
      exec .unknownRequest s = .next (chooseFrame (raisePart .malformedRequest (taken s rest)))) ∧
    (∀ h code length payload rest, Waiting s (requestOf h code length payload) rest → h.fits → code < 256 → length < 65536 →
      let r := exec (rowOf code h.table) s
      let u := taken s rest
      let malformed := r = .next (chooseFrame (replied h code 3 (raisePart .malformedRequest u)))
      (length ≠ payload.length → malformed) ∧
      (length = payload.length →
        ((code = 0 ∨ 13 < code) → r = .next (chooseFrame (replied h code 4 u))) ∧
        (code = 1 → (h.table = 0 ∨ 16 < h.table) → r = .next (chooseFrame (replied h code 5 u))) ∧
        (code = 2 → (h.table = 0 ∨ 11 < h.table) → r = .next (chooseFrame (replied h code 5 u))) ∧
        (code = 1 → 1 ≤ h.table → h.table ≤ 16 → length ≠ 0 → malformed) ∧
        (code = 2 → 1 ≤ h.table → h.table ≤ 11 → length ≠ payloadOf h code → malformed) ∧
        (3 ≤ code → code ≤ 13 → length ≠ payloadOf h code → malformed))) ∧
    (∀ h code length payload rest, s.mgmt.requests = requestOf h code length payload :: rest → h.fits → code < 256 →
      s.mgmt.notif = .due → s.power.mode ≠ .dormant →
      let r := exec (rowOf code h.table) s
      (tellable s → s.uplink.control.length < 3 → r = exec (rowOf code h.table) (notified s)) ∧
      (tellable s → s.uplink.control.length = 3 → r = .next (chooseFrame (notified (opened s)))) ∧
      (¬ tellable s → s.uplink.control.length < 4 →
        r = exec (rowOf code h.table) { s with mgmt := { s.mgmt with notif := .idle } }))

namespace Sys2Proof.Claims

/-- What storing the entry at an index of a table does; each is stated by itself (`ServiceEntryStored`,
`ProfileAndPowerEntriesStored`, `SettingsEntriesStored`). -/
def entryOf : Nat → StoreEntry
  | 1 => serviceEntry
  | 2 => profileEntry
  | 3 => pageMsEntry
  | 4 => forwardEntry
  | 5 => uplinkEntry
  | 6 => powerEntry
  | 7 => testEntry
  | 8 => timeEntry
  | 9 => alarmEntry
  | 10 => enableEntry
  | _ => mgmtEntry

/-- R175: the index lies in the range of a table that may be written. -/
def inRange (table i : Nat) : Prop :=
  (table = 1 ∧ 1 ≤ i ∧ i ≤ 48) ∨ (table = 2 ∧ i ≤ 15) ∨ (table = 4 ∧ i ≤ 191) ∨ (table = 9 ∧ i ≤ 7) ∨
    (table ∈ [3, 5, 6, 7, 8, 10, 11] ∧ i = 0)

/-- A write under way: the state so far, how many entries are stored, whether one was dropped for lying outside the table, and the
status and index of the one refused. -/
structure Written where
  state : State
  done : Nat := 0
  dropped : Bool := false
  refused : Option (Nat × Nat) := none

/-- R177: one entry of a write that has not been stopped. R99, R101: its effects may end a transmission, and the transmit arbiter has then
chosen before what follows. -/
def writeOne (table i : Nat) (b : Bytes) (w : Written) (w' : Written) : Prop :=
  (w.refused ≠ none → w' = w) ∧
  (w.refused = none → ¬ inRange table i → w' = { w with dropped := true }) ∧
  (w.refused = none → inRange table i →
    w' = (match (entryOf table i b w.state).2 with
      | none => { w with state := chooseFrame (entryOf table i b w.state).1, done := w.done + 1 }
      | some st => { w with refused := some (st.code, i) }))

/-- R177: the entries of a write in turn, from index `i` on. -/
def writeAll (table : Nat) : Nat → List Bytes → Written → Written → Prop
  | _, [], w, w' => w' = w
  | i, b :: bs, w, w' => ∃ v, writeOne table i b w v ∧ writeAll table (i + 1) bs v w'

/-- The entries that a payload carries. -/
def entriesIn (size : Nat) : Nat → Bytes → List Bytes
  | 0, _ => []
  | n + 1, b => b.take size :: entriesIn size n (b.drop size)

end Sys2Proof.Claims

/-- R177: the eleven Write Entries rows. While a save is in flight the write is answered BUSY and stores nothing. Otherwise the
entries are taken in ascending index: one outside the table is dropped, a refused one stops the write, and every other one is stored
with its effects, and with the choice of the transmit arbiter that they allow (R99), before the next; the response carries the status,
the count done and the index refused. It joins the control queue (R172), and where the write has handed on the DORMANT entry it is
discarded with the frames of that queue (R98, R104). The model's choices in it: assumptions 4 and 45; and that the entry discards
this response too (assumption 35). -/
def Obligations.WriteEntriesApplied : Prop :=
  ∀ (s : State) (h : Header) (payload : Bytes) (rest : List Bytes), Asked s h 2 payload rest → 1 ≤ h.table → h.table ≤ 11 →
    (s.image.phase ≠ .idle → exec (rowOf 2 h.table) s = .next (chooseFrame (replied h 2 10 (taken s rest)))) ∧
    (s.image.phase = .idle → ∃ w : Written,
      writeAll h.table h.first (entriesIn (writeSize h.table) h.count payload) { state := taken s rest } w ∧
      let r := match w.refused with
        | some (status, i) => answered h 2 status w.done i [] .response w.state
        | none => answered h 2 (if w.dropped then 2 else 0) w.done 0xFFFF [] .response w.state
      exec (rowOf 2 h.table) s = .next (closed (
        if s.power.mode ≠ .dormant ∧ w.state.power.mode = .dormant then { r with uplink := { r.uplink with control := [] } } else r)))

namespace Sys2Proof.Claims

/-- R176: the entries of a read from the first index on, while they lie in the table and their bytes stay within `room`. -/
def readUpTo (inside : Nat → Bool) (entry : Nat → Bytes) : Nat → Nat → Nat → List Bytes
  | 0, _, _ => []
  | n + 1, i, room =>
    if inside i = true ∧ (entry i).length ≤ room then entry i :: readUpTo inside entry n (i + 1) (room - (entry i).length) else []

/-- Section 12.1: a named value, by its position among its values. -/
def codeSent (n : Nat) : Bytes := beBytes 1 n

/-- Section 12.1: a yes, no field. -/
def yesSent (b : Bool) : Bytes := [if b then 1 else 0]

/-- Section 12.1: an optional field of `w` bytes. -/
def optSent (w : Nat) (x : Option Nat) : Bytes :=
  match x with
  | none => List.replicate (w + 1) 0
  | some v => codeSent 1 ++ beBytes w v

/-- Section 12.1: a signed number of 4 bytes, two's complement. -/
def signedSent (v : Int) : Bytes := beBytes 4 (v % 4294967296).toNat

/-- R162 and section 12.1: the position of a reference among its values. -/
def referenceSent (r : Reference) : Bytes := codeSent (match r with | .oscillator => 0 | .recovered => 1)

/-- A read entry of the Service Table, 33 bytes (R1). -/
def serviceSent (e : ServiceEntry) : Bytes :=
  yesSent e.enabled ++ beBytes 2 e.upTag ++ beBytes 2 e.allowed.toNat ++ beBytes 1 e.weight ++ beBytes 4 e.guarantee ++
    beBytes 4 e.burst ++ yesSent e.borrow ++ beBytes 2 e.upqCells ++ beBytes 2 e.dnqCells ++ beBytes 4 e.idleMs ++
    beBytes 1 e.shedClass ++ beBytes 1 e.autoRetrains ++ beBytes 4 e.autoWindowS ++ beBytes 4 e.lineId

/-- A read entry of the Profile Table, 22 bytes (R29). -/
def profileSent (e : Profile) : Bytes :=
  yesSent e.valid ++ beBytes 4 e.downKbps ++ beBytes 4 e.upKbps ++ beBytes 4 e.trickleKbps ++ beBytes 2 e.reach ++
    beBytes 2 e.maxAtten ++ beBytes 2 e.activeMw ++ beBytes 2 e.idleMw ++ yesSent e.idleAllowed

/-- The read entry of the Power Table, 33 bytes (R105). -/
def powerSent (e : PowerTable) : Bytes :=
  beBytes 2 e.budgetNormal ++ beBytes 2 e.budgetHoldup ++ beBytes 2 e.budgetReserve ++ beBytes 2 e.listenMw ++ beBytes 2 e.trainMw ++
    beBytes 1 e.energyThreshold ++ beBytes 4 e.cutoffMv ++ beBytes 4 e.reserveMv ++ beBytes 4 e.recoverMv ++ beBytes 4 e.saveIdleMs ++
    beBytes 2 e.feedSettleMs ++ beBytes 1 e.promoteCells ++ yesSent e.wakeOnFeed ++ yesSent e.wakeOnButton ++ yesSent e.wakeOnEnergy

/-- The read entry of the Test Table, 26 bytes (R160). -/
def testSent (e : TestTable) : Bytes :=
  beBytes 2 e.prepareMs ++ beBytes 2 e.measureMs ++ beBytes 2 e.restoreMs ++ beBytes 4 e.quietMs ++ beBytes 1 e.maxDefers ++
    beBytes 4 e.hazardMv ++ beBytes 4 e.openOhms ++ beBytes 4 e.insulMinKohm ++ beBytes 1 e.capPerKm ++ beBytes 2 e.testMw

/-- A read entry of the Alarm Table, 19 bytes (R167). -/
def alarmSent (e : Alarm) : Bytes :=
  yesSent e.enabled ++ beBytes 6 e.time ++ beBytes 4 e.periodMs ++
    codeSent (match e.action with | .wake => 0 | .windowOpen => 1 | .windowClose => 2 | .testLines => 3) ++ beBytes 6 e.lines.toNat ++
    beBytes 1 e.steps.toNat

/-- A Line Record (R3). -/
def lineSent (u : State) (l : LineNo) : Bytes :=
  let x := u.line l
  codeSent (match x.state with
    | .down => 0 | .parked => 1 | .listening => 2 | .training => 3 | .active => 4 | .idleLow => 5 | .testing => 6 | .blocked => 7) ++
    optSent 1 (x.running.map fun p => p.val) ++ beBytes 2 x.ability.toNat ++ yesSent x.powerSave ++ optSent 2 x.attenuation ++
    optSent 4 x.identity ++ optSent 2 x.loopLength ++ beBytes 4 x.allocation ++ beBytes 4 x.ceiling ++ beBytes 4 x.credit ++
    beBytes 2 (depth x.upq) ++ beBytes 2 (depth x.dnq) ++ beBytes 1 x.failures ++ beBytes 2 x.backoff ++ optSent 6 x.windowStart ++
    beBytes 1 x.retrains ++ beBytes 2 x.cost ++
    optSent 1 ((waitKind u l).map fun k => match k with | .listen => 0 | .train => 1 | .promote => 2) ++ optSent 6 x.lastFrame ++
    codeSent (if u.links[linkOf l].up then 0 else 1)

/-- The Share Result (R77). -/
def shareSent (u : State) : Bytes :=
  ((List.finRange 48).flatMap fun l => beBytes 4 (u.line l).allocation) ++ beBytes 4 u.share.snapshot ++ beBytes 4 u.share.spare ++
    yesSent u.share.oversubscribed ++ yesSent u.share.flight.isSome ++ yesSent u.share.again ++ codeSent (if u.uplink.up then 0 else 1) ++
    beBytes 4 u.uplink.reported ++ beBytes 4 u.uplink.effective ++ beBytes 4 u.uplink.basis

/-- The Power Status, 509 bytes (R128, section 12.3). -/
def powerStatusSent (u : State) : Bytes :=
  let p := u.power
  let entry (e : WaitEntry) : Bytes :=
    beBytes 1 (lineNumber e.line) ++ codeSent (match e.kind with | .listen => 0 | .train => 1 | .promote => 2) ++ beBytes 1 e.cls ++
      beBytes 4 e.stamp ++ optSent 2 e.need
  codeSent (match p.mode with | .normal => 0 | .holdup => 1 | .reserve => 2 | .dormant => 3) ++ beBytes 2 (allowance u) ++
    beBytes 2 (account u) ++ beBytes 2 p.testCommit ++ codeSent (if u.pins.feedOk then 0 else 1) ++ codeSent (if p.settled then 0 else 1) ++
    beBytes 2 p.settleCount ++ (match p.sample with | none => List.replicate 5 0 | some v => codeSent 1 ++ signedSent v) ++
    beBytes 1 p.failures ++ yesSent p.entryPending ++
    beBytes 1 (p.latches.feed.toNat + 2 * p.latches.button.toNat + 4 * p.latches.energy.toNat + 8 * p.latches.alarm.toNat) ++
    (match p.lastCause with
      | none => List.replicate 9 0
      | some c => codeSent 1 ++ codeSent (match c.source with | .feed => 0 | .button => 1 | .energy => 2 | .alarm => 3) ++ beBytes 1 c.index ++
          beBytes 6 c.time) ++
    beBytes 1 p.wait.length ++ p.wait.flatMap entry ++ List.replicate (10 * (48 - p.wait.length)) 0

/-- A test request record, 12 bytes (section 12.3). -/
def requestSent (r : TestReq) : Bytes :=
  beBytes 1 (lineNumber r.line) ++ beBytes 1 r.origins.toNat ++ beBytes 1 (rank r) ++ beBytes 1 r.steps.toNat ++
    beBytes 1 (r.force.toNat + 2 * r.tag.isSome.toNat) ++ beBytes 1 r.defers ++ beBytes 4 r.stamp ++ beBytes 2 (r.tag.getD 0)

/-- The outcomes of the four steps, two bits a step, FOREIGN_V lowest (section 12.3). -/
def outcomesSent (o : Outcomes) : Bytes :=
  let code : StepOutcome → Nat := fun x => match x with
    | .notRun => 0
    | .pending => 0
    | .done => 1
    | .timedOut => 2
    | .skipped => 3
  beBytes 1 (code o.foreignV + 4 * code o.loopR + 16 * code o.cap + 64 * code o.insul)

/-- A verdict, 0 for none (section 12.3). -/
def verdictSent (v : Option Verdict) : Bytes :=
  codeSent (match v with
    | none => 0 | some .hazard => 1 | some .abortedFault => 2 | some .abortedPower => 3 | some .cancelled => 4
    | some .deferredOut => 5 | some .openLoop => 6 | some .lowInsulation => 7 | some .incomplete => 8 | some .pass => 9)

/-- The Test Queue, 171 bytes (R139, section 12.3). -/
def testQueueSent (u : State) : Bytes :=
  let q := u.test.queue
  codeSent (match u.test.bus with | .idle => 0 | .prepare => 1 | .measure => 2 | .restore => 3 | .fault => 4) ++ beBytes 1 q.length ++
    (match u.test.current with
      | none => List.replicate 25 0
      | some t => requestSent t.req ++ outcomesSent t.outcomes ++
          codeSent (match t.current with | some .foreignV => 0 | some .loopR => 1 | some .cap => 2 | some .insul => 3 | none => 0xFF) ++
          beBytes 1 t.timeouts ++ verdictSent t.verdict ++ beBytes 2 t.stageTimer ++
          beBytes 1 (t.commitHeld.toNat + 2 * t.retry.toNat) ++ beBytes 6 t.startTime) ++
    q.flatMap requestSent ++ List.replicate (12 * (12 - q.length)) 0

/-- A record of the Results Table, 53 bytes (R158, section 12.3). -/
def resultSent (r : ResultRec) : Bytes :=
  let v := r.values
  let flag : Bool := match v.loop with | some (_, _, _, isOpen) => isOpen | none => false
  verdictSent r.verdict ++ beBytes 6 r.endTime ++ beBytes 1 r.origins.toNat ++ beBytes 1 r.steps.toNat ++ outcomesSent r.outcomes ++
    beBytes 1 (r.tag.isSome.toNat + 2 * v.foreign.isSome.toNat + 4 * v.loop.isSome.toNat + 8 * v.capacitance.isSome.toNat +
      16 * v.length.isSome.toNat + 32 * v.insulation.isSome.toNat + 64 * flag.toNat) ++
    beBytes 2 (r.tag.getD 0) ++
    (match v.foreign with | some (x, y, z) => signedSent x ++ signedSent y ++ signedSent z | none => List.replicate 12 0) ++
    (match v.loop with | some (x, y, z, _) => beBytes 4 x ++ beBytes 4 y ++ beBytes 4 z | none => List.replicate 12 0) ++
    beBytes 2 (v.capacitance.getD 0) ++ beBytes 2 (v.length.getD 0) ++
    (match v.insulation with | some (x, y, z) => beBytes 4 x ++ beBytes 4 y ++ beBytes 4 z | none => List.replicate 12 0)

/-- A read entry: the entry of a table, with the readings its rule appends, or of a view (section 12.3). -/
def entrySent (u : State) (table i : Nat) : Bytes :=
  let t := u.tables
  match table with
  | 1 => t.service[i - 1]?.elim [] serviceSent
  | 2 => t.profiles[i]?.elim [] profileSent
  | 3 => beBytes 2 t.pageMs
  | 4 => t.forwarding[i]?.elim [] fun e => yesSent e.valid ++ beBytes 2 e.tag ++ beBytes 1 e.line
  | 5 => beBytes 4 t.uplink.pinned ++ beBytes 1 t.uplink.headroom ++ beBytes 1 t.uplink.hysteresis
  | 6 => powerSent t.power
  | 7 => testSent t.test
  | 8 => referenceSent t.time.reference ++ beBytes 4 t.time.localKhz ++ beBytes 2 t.time.localFrac ++ beBytes 4 t.time.uplinkKhz ++
      beBytes 2 t.time.uplinkFrac ++ beBytes 6 u.time.now ++ referenceSent u.time.inUse ++ codeSent (if u.time.windowOpen then 0 else 1)
  | 9 => t.alarms[i]?.elim [] alarmSent
  | 10 => beBytes 3 t.eventEnable.toNat
  | 11 => beBytes 6 t.mgmt.mgmtAddress.toNat ++ beBytes 6 t.mgmt.stationAddress.toNat ++ beBytes 2 t.mgmt.holdoffMs ++
      codeSent (match u.image.phase with | .idle => 0 | _ => 1) ++ beBytes 2 u.image.count
  | 12 => (lineOf i).elim [] (lineSent u)
  | 13 => shareSent u
  | 14 => powerStatusSent u
  | 15 => testQueueSent u
  | _ => u.results[i - 1]?.elim [] resultSent

/-- R175: the index lies in the range of a table or view. -/
def readable (table i : Nat) : Bool :=
  let (first, n) := [(0, 0), (1, 48), (0, 16), (0, 1), (0, 192), (0, 1), (0, 1), (0, 1), (0, 1), (0, 8), (0, 1), (0, 1), (1, 48), (0, 1),
    (0, 1), (0, 1), (1, 48)].getD table (0, 0)
  decide (first ≤ i ∧ i < first + n)

/-- The counters of a line as sent, 19 bytes, and the uplink set as line 0, 16 bytes (section 12.2). -/
def countersSent (u : State) (n : Nat) : Bytes :=
  match lineOf n with
  | some l =>
    let c := (u.line l).counters
    beBytes 1 n ++ beBytes 4 c.framesUp ++ beBytes 4 c.framesDown ++ beBytes 2 c.dropsUp ++ beBytes 2 c.dropsDown ++
      beBytes 2 c.crcErr ++ beBytes 2 c.los ++ beBytes 2 c.retrains
  | none => [0] ++ beBytes 4 u.pool.oversize ++ beBytes 4 u.pool.undersize ++ beBytes 4 u.pool.unknownTag ++ beBytes 2 u.pool.free ++
      [if u.pool.exhausted then 1 else 0]

/-- The state with the counters of the lines numbered from `first` to before `last` cleared, 0 being the uplink set (R27, R68). -/
def countersCleared (first last : Nat) (u : State) : State :=
  { u with
    lines := Vector.ofFn fun l => if first ≤ lineNumber l ∧ lineNumber l < last then { u.line l with counters := {} } else u.line l
    pool := if first = 0 ∧ 0 < last then { u.pool with oversize := 0, undersize := 0, unknownTag := 0 } else u.pool }

end Sys2Proof.Claims

/-- R176, R27, R68, R182: Read Entries, Read Counters and Read Events. A read returns the entries from the first index on, cut to
the table and to 1400 bytes, PARTIAL where the cut removes one that was asked for, and changes nothing but the queues; each entry of the eleven tables and the five
views is sent field by field as sections 12.1 and 12.3 lay it out. The clear option clears the counters returned and no others. The
model's choices in it: assumptions 15 and 38; and the codes of the bus state, the current step, the notification state, the save
state, the reference in use and the window flag, which stand in no Values column (assumption 49). -/
def Obligations.ReadsAnswerWhatStands : Prop :=
  ∀ (s : State) (h : Header) (rest : List Bytes),
    (Asked s h 1 [] rest → 1 ≤ h.table → h.table ≤ 16 →
      let es := readUpTo (readable h.table) (entrySent s h.table) h.count h.first 1400
      exec .readEntries s = .next (chooseFrame
        (answered h 1 (if es.length < h.count then 2 else 0) es.length 0xFFFF es.flatten .response (taken s rest)))) ∧
    (∀ first count clear : Byte, Asked s h 3 [first, count, clear] rest →
      let es := readUpTo (fun n => decide (n ≤ 48)) (countersSent s) count.toNat first.toNat 1400
      let u := if clear = 0 then taken s rest else countersCleared first.toNat (first.toNat + es.length) (taken s rest)
      exec .readCounters s = .next (chooseFrame
        (answered h 3 (if es.length < count.toNat then 2 else 0) es.length 0xFFFF es.flatten .response u))) ∧
    (Asked s h 4 [] rest →
      let state := match s.mgmt.notif with | .idle => 0 | .due => 1 | .queued => 2 | .holdoff => 3
      exec .readEvents s = .next (chooseFrame (answered h 4 0 0 0xFFFF
        (noticePayload s ++ setBytes s.mgmt.last ++ beBytes 3 s.tables.eventEnable.toNat ++ beBytes 1 state ++
          beBytes 2 s.mgmt.holdoff) .response (taken s rest))))

/-! ## What a stored entry does (R1, R2, R5, R6, R21, R30, R31, R64, R72, R106, R113, R161, R162, R164, R167, R178, R180) -/

namespace Sys2Proof.Claims

/-- The pending or last-notified state with the kinds that are not enabled taken from it (R180). -/
def keepsEnabled (e : KindSet) (a b : EventSet) : Prop :=
  (∀ k : LineEvent, b.linesOfKind k = if mem e k.index = true then a.linesOfKind k else 0) ∧
  ∀ (k : Fin 16) (j : Fin 20), j.val = k.val + 4 → mem b.part k = (mem a.part k && mem e j)

/-- The Forwarding Table stores the entry at an index (R63). -/
def forwarded (i : Fin 192) (e : Forward) (u : State) : State :=
  { u with tables := { u.tables with forwarding := u.tables.forwarding.set i e } }

end Sys2Proof.Claims

/-- R30, R64, R72, R161, R162 with R164, R167, R178 with R183, R180: what an entry stored in the Profile Settings, the Forwarding Table, the
Uplink Settings, the Test Table, the Time Settings, the Alarm Table, the Event Enable table and the Management Settings does, with the
checks that refuse one. -/
def Obligations.SettingsEntriesStored : Prop :=
  ∀ (u : State) (i : Nat) (b : Bytes),
    pageMsEntry i b u = ({ u with tables := { u.tables with pageMs := readPageMs b } }, none) ∧
    uplinkEntry i b u = (if readUplinkSettings b = u.tables.uplink then u
      else reevaluated { u with tables := { u.tables with uplink := readUplinkSettings b } }, none) ∧
    testEntry i b u = ({ u with tables := { u.tables with test := readTest b } }, none) ∧
    (let e := readTimeSettings b
     let v := { u with tables := { u.tables with time := e } }
     let wanted : Reference := if e.reference = .recovered ∧ u.uplink.up = true ∧ u.uplink.refValid = true then .recovered else .oscillator
     (e.reference = u.tables.time.reference ∨ u.time.inUse = wanted → timeEntry i b u = (v, none)) ∧
     (e.reference ≠ u.tables.time.reference → u.time.inUse ≠ wanted → timeEntry i b u = ({ v with time := { u.time with
       inUse := wanted, periodCount := 0, phase := 0
       msLength := (match wanted with | .oscillator => e.localKhz | .recovered => e.uplinkKhz) } }, none))) ∧
    (∀ k : Fin 8, i = k.val →
      alarmEntry i b u = ({ u with tables := { u.tables with alarms := u.tables.alarms.set k (readAlarm b) } }, none)) ∧
    (∃ p q, enableEntry i b u = ({ u with
        tables := { u.tables with eventEnable := readEnables b }
        mgmt := { u.mgmt with pending := p, last := q } }, none) ∧
      keepsEnabled (readEnables b) u.mgmt.pending p ∧ keepsEnabled (readEnables b) u.mgmt.last q) ∧
    (let e := readMgmt b
     let v := { u with tables := { u.tables with mgmt := e } }
     let usable := e.mgmtAddress ≠ 0 ∧ e.mgmtAddress.getLsbD 40 = false
     (¬ usable → mgmtEntry i b u = (u, some .badAddress)) ∧
     (usable → u.mgmt.notif = .idle → tellable v → mgmtEntry i b u = ({ v with mgmt := { u.mgmt with notif := .due } }, none)) ∧
     (usable → ¬ (u.mgmt.notif = .idle ∧ tellable v) → mgmtEntry i b u = (v, none))) ∧
    (∀ k : Fin 192, i = k.val →
      let e := readForward b
      let line := 1 ≤ e.line ∧ e.line ≤ 48
      let tag := 1 ≤ e.tag ∧ e.tag ≤ 4094
      let held := ∃ j : Fin 192, j ≠ k ∧ u.tables.forwarding[j].valid = true ∧ u.tables.forwarding[j].tag = e.tag
      (e.valid = false → forwardEntry i b u = (forwarded k e u, none)) ∧
      (e.valid = true → ¬ line → forwardEntry i b u = (u, some .badLine)) ∧
      (e.valid = true → line → ¬ tag → forwardEntry i b u = (u, some .badTag)) ∧
      (e.valid = true → line → tag → held → forwardEntry i b u = (u, some .duplicateTag)) ∧
      (e.valid = true → line → tag → ¬ held → forwardEntry i b u = (forwarded k e u, none)))

namespace Sys2Proof.Claims

/-- The change from a line's cost to train_mW is granted. -/
def trainGranted (a : State) (l : LineNo) : Prop :=
  a.power.mode ≠ .dormant ∧ committed a + a.tables.power.trainMw ≤ budget a + (a.line l).cost

/-- R12, R20: the line, back from what it did, asks for LISTENING and then for TRAINING: `a` is the state before, `t` after. -/
def placed (a : State) (l : LineNo) (t : State) : Prop :=
  let y := t.line l
  (¬ listenGranted a l → y.state = .parked ∧ y.cost = 0 ∧
    (a.power.mode ≠ .dormant → waitKind a l = none → waitKind t l = some .listen)) ∧
  (listenGranted a l → trainGranted a l → y.state = .training ∧ y.cost = a.tables.power.trainMw ∧
    ∃ adv save, offers a l adv save ∧ y.exchange = some (openedExchange a l adv save)) ∧
  (listenGranted a l → ¬ trainGranted a l → y.state = .listening ∧ y.cost = a.tables.power.listenMw ∧
    (a.power.mode ≠ .dormant → waitKind a l = none → waitKind t l = some .train))

/-- R20, R21, R28: the retrain of a line in service: it has left service, its queues flushed and counted, RETRAINS is one higher, it has
asked for TRAINING, with no LINE_LOST and its failures as they were, and the retrain is counted in its window. -/
def retrained (a : State) (l : LineNo) (t : State) : Prop :=
  let x := a.line l
  let y := t.line l
  y.upq = [] ∧ y.dnq = [] ∧ y.ready = 0 ∧ y.allocation = 0 ∧ y.credit = 0 ∧ y.running = none ∧ y.failures = x.failures ∧
  y.backoff = 0 ∧ placed a l t ∧
  y.counters = { x.counters with
    dropsUp := min 65535 (x.counters.dropsUp + x.upq.length)
    dropsDown := min 65535 (x.counters.dropsDown + x.dnq.length)
    retrains := min 65535 (x.counters.retrains + 1) } ∧
  t.pool.free = a.pool.free + depth x.upq + depth x.dnq ∧ t.share.spare = a.share.spare + x.allocation ∧
  t.share.flight.isSome = true ∧ t.mgmt.pending.lineLost = a.mgmt.pending.lineLost ∧ retrainCounted a l t ∧
  (∀ k, k ≠ l → t.line k = a.line k) ∧
  t = { a with lines := t.lines, pool := t.pool, uplink := t.uplink, share := t.share, power := t.power, test := t.test, mgmt := t.mgmt
               out := t.out, notes := t.notes }

/-- R20, R21, R48: the exchange of a TRAINING line is ended with no failure and no TRAIN_FAIL, and the line asks for a new one. -/
def rejoined (a : State) (l : LineNo) (t : State) : Prop :=
  (t.line l).failures = (a.line l).failures ∧ (t.line l).counters = (a.line l).counters ∧ placed a l t ∧
  ((t.line l).state ≠ .training → (t.line l).exchange = none) ∧ (∀ k, k ≠ l → t.line k = a.line k) ∧
  t = { a with lines := t.lines, power := t.power, out := t.out, notes := t.notes }

/-- R2: the effects of a stored Service entry that change no state: `l` is its line and `e` the entry, with the wait queue as `q`. -/
def serviced (l : LineNo) (e : ServiceEntry) (q : List WaitEntry) (u : State) : State :=
  { withLine u l { u.line l with credit := min e.burst (u.line l).credit } with
    tables := { u.tables with service := u.tables.service.set l e }
    power := { u.power with wait := q } }

/-- R99: a write that sets borrow is followed by the transmit arbiter's choice. -/
def borrowed (old new : ServiceEntry) (u : State) : State := if old.borrow = false ∧ new.borrow = true then chooseFrame u else u

/-- R1, R6, R21: the entry changes no state of its line. -/
def leavesState (u : State) (l : LineNo) (e : ServiceEntry) : Prop :=
  (e.enabled = (u.service l).enabled ∨ (e.enabled = true ∧ (u.line l).state ≠ .down)) ∧
  (e.allowed = (u.service l).allowed ∨ ((u.line l).state ≠ .training ∧
    ∀ p, (u.line l).inService = true → (u.line l).running = some p → mem e.allowed p = true))

/-- R113: the cost of a line whose state's cost a Power Table write changes. -/
def recosted (old new : PowerTable) (x : Line) : Line :=
  if x.state = .listening ∧ new.listenMw ≠ old.listenMw then { x with cost := new.listenMw }
  else if x.state = .training ∧ new.trainMw ≠ old.trainMw ∧ (∀ y, x.exchange = some y → y.chosen = none) then
    { x with cost := new.trainMw }
  else x

end Sys2Proof.Claims

/-- R2, R5, R6, R21: what a stored Service entry does. The field effects come first: the credit is clamped, a wait entry moves to
its place in a new class, a new weight or guarantee of a line in service triggers a reshare. Then the state's: an enabled DOWN line
is PARKED with a LISTEN entry, a disabled line is DOWN, the entry that the Test Queue holds for it being removed with a record of
CANCELLED and TEST_DONE (R134), and a change of the allowed profiles may retrain the line. A write that sets borrow is a moment of the
transmit arbiter's choice (R99), made between the two. The model's choices in it: assumptions 19, 32 and 45. -/
def Obligations.ServiceEntryStored : Prop :=
  ∀ (u : State) (l : LineNo) (b : Bytes),
    let r := serviceEntry (lineNumber l) b u
    let e := readService b
    let old := u.service l
    let x := u.line l
    let v := serviced l e u.power.wait u
    let c := borrowed old e v
    r.2 = none ∧
    (leavesState u l e → e.shedClass = old.shedClass →
      r.1 = borrowed old e (if (e.weight ≠ old.weight ∨ e.guarantee ≠ old.guarantee) ∧ x.inService = true then triggerReshare v else v)) ∧
    (leavesState u l e → e.shedClass ≠ old.shedClass → e.weight = old.weight → e.guarantee = old.guarantee →
      (u.power.wait.map WaitEntry.line).Nodup → ∃ q, r.1 = borrowed old e (serviced l e q u) ∧
        q.Perm (u.power.wait.map fun w => if w.line = l then { w with cls := e.shedClass } else w) ∧
        (waitOrdered u.power.wait → (u.power.wait.map WaitEntry.stamp).Nodup → waitOrdered q)) ∧
    (old.enabled = false → e.enabled = true → x.state = .down → u.power.mode ≠ .dormant → waitKind u l = none →
      waitKind r.1 l = some .listen ∧ (r.1.line l).state = .parked ∧
      r.1 = { withLine c l { c.line l with state := .parked } with
        power := { u.power with wait := r.1.power.wait, stampCount := r.1.power.stampCount }
        notes := { u.notes with scan := true } }) ∧
    (old.enabled = true → e.enabled = false →
      queuedTest r.1 l = none ∧ (∀ k, k ≠ l → r.1.line k = c.line k) ∧ r.1.mgmt.pending.lineLost = u.mgmt.pending.lineLost ∧
      r.1.mgmt.pending.shed = u.mgmt.pending.shed ∧ r.1.mgmt.pending.trainFail = u.mgmt.pending.trainFail ∧
      r.1.tables = v.tables ∧
      (∀ t, queuedTest u l = some t → r.1.results = u.results.set l
        { verdict := some .cancelled, endTime := u.time.now, origins := t.origins, tag := t.tag, steps := t.steps }) ∧
      (∀ t, queuedTest u l = some t → kindEnabled u 4 = true → r.1.mgmt.pending.hasPart .testDone = true) ∧
      partRaised u (fun k => k = .testDone ∧ queuedTest u l ≠ none) r.1 ∧
      (x.state = .parked ∨ x.powered = true ∨ (x.state = .blocked ∧ isFaultLine u l = false) →
        (r.1.line l).state = .down ∧ (r.1.line l).mode = .off ∧ (r.1.line l).backoff = 0 ∧ (r.1.line l).failures = x.failures) ∧
      (x.state = .parked ∨ x.powered = true → waitKind r.1 l = none) ∧
      (x.powered = true → (r.1.line l).cost = 0 ∧
        (x.inService = true → (r.1.line l).running = none ∧ (r.1.line l).upq = [] ∧ (r.1.line l).dnq = [] ∧
          (r.1.line l).allocation = 0) ∧
        (x.state = .training → (r.1.line l).exchange = none)) ∧
      (x.state = .blocked → isFaultLine u l = true → (r.1.line l).state = .blocked) ∧
      (∀ t, x.state = .testing → u.test.current = some t → t.req.line = l →
        (r.1.line l).state = .testing ∧
        ((u.test.bus = .prepare ∨ u.test.bus = .measure) → r.1.test.bus = .restore ∧
          ∃ t', r.1.test.current = some t' ∧ t'.verdict = some (t.verdict.getD .cancelled)) ∧
        (u.test.bus = .restore → r.1.test.bus = .restore ∧ r.1.test.current = some t))) ∧
    (∀ p, e = { old with allowed := e.allowed } → x.inService = true → x.running = some p → mem old.allowed p = true →
      mem e.allowed p = false → retrained v l r.1) ∧
    (e = { old with allowed := e.allowed } → e.allowed ≠ old.allowed → x.state = .training → rejoined v l r.1)

/-- R31, R48 and R106, R113: what a stored Profile entry and a stored Power Table do. A profile that changes retrains the lines that
run it, ends the exchanges it concerns, clears the needs of the wait entries, and triggers a reshare. A Power Table re-evaluates the
costs, then the mode where a threshold changed, with MODE_CHANGE (R110), then sheds, then scans where a cost fell or the budget rose;
a mode that changes to DORMANT is the automatic entry (R123). The model's choices in it: assumption 41; and that no scan is made where
no cost fell, no budget rose and nothing was shed (assumption 48). -/
def Obligations.ProfileAndPowerEntriesStored : Prop :=
  (∀ (u : State) (p : ProfileNo) (b : Bytes),
    let r := profileEntry p.val b u
    let e := readProfile b
    let v := { u with tables := { u.tables with profiles := u.tables.profiles.set p e } }
    (e = u.profile p → r = (u, none)) ∧
    (e ≠ u.profile p → r.2 = none ∧ r.1.tables = v.tables ∧ r.1.share.flight.isSome = true ∧ (∀ w ∈ r.1.power.wait, w.need = none) ∧
      ((∃ w ∈ u.power.wait, w.need.isSome = true ∧ w.kind = .train ∧ (u.line w.line).state = .listening) → r.1.notes.scan = true) ∧
      r.1.mgmt.pending.lineLost = u.mgmt.pending.lineLost ∧ r.1.mgmt.pending.trainFail = u.mgmt.pending.trainFail ∧
      ∀ l, let x := u.line l
        let y := r.1.line l
        let concerned := x.state = .training ∧ ((∃ z, x.exchange = some z ∧ mem z.advertised p = true) ∨
          (e.valid = true ∧ mem (u.service l).allowed p = true ∧ ∀ len, x.loopLength = some len → len ≤ e.reach))
        let runs := x.inService = true ∧ x.running = some p
        (runs → y.running = none ∧ y.upq = [] ∧ y.dnq = [] ∧ y.allocation = 0 ∧ y.failures = x.failures ∧
          y.counters.retrains = min 65535 (x.counters.retrains + 1) ∧ y.counters.los = x.counters.los) ∧
        (concerned → y.failures = x.failures ∧ y.counters = x.counters) ∧
        (runs ∨ concerned → (y.state = .parked ∨ y.state = .listening ∨ y.state = .training) ∧
          (y.state = .training → ∃ adv save, offers v l adv save ∧ y.exchange = some (openedExchange v l adv save))) ∧
        (¬ runs → ¬ concerned → y = x))) ∧
  (∀ (u : State) (i : Nat) (b : Bytes),
    let r := powerEntry i b u
    let e := readPower b
    let old := u.tables.power
    let v := { u with
      tables := { u.tables with power := e }
      lines := Vector.ofFn fun l => recosted old e (u.line l)
      notes := { u.notes with
        scan := u.notes.scan || (List.finRange 48).any fun l => decide ((recosted old e (u.line l)).cost < (u.line l).cost) } }
    let m := evaluateMode v (some u.power.mode)
    let moved := e.cutoffMv ≠ old.cutoffMv ∨ e.reserveMv ≠ old.reserveMv ∨ e.recoverMv ≠ old.recoverMv
    (u.power.mode = .dormant ∨ u.power.awaiting = true → r = (v, none)) ∧
    (u.power.mode ≠ .dormant → u.power.awaiting = false →
      (¬ moved ∨ m = u.power.mode → r = ({ shed v with notes := { (shed v).notes with
        scan := (shed v).notes.scan || decide (allowance u < allowance v)
        arbiter := (shed v).notes.arbiter || decide (allowance v ≠ allowance u) } }, none)) ∧
      (moved → m = .dormant → r = (dormantEntry (armFeed v), none)) ∧
      (moved → m ≠ u.power.mode → m ≠ .dormant → (∀ l, (u.service l).shedClass ≤ 2) →
        let w := raisePart .modeChange { v with power := { v.power with mode := m } }
        r = ({ shed w with notes := { (shed w).notes with
          scan := (shed w).notes.scan || decide (allowance v < allowance w ∨ allowance u < allowance w)
          arbiter := true } }, none) ∧ r.1.power.mode = m ∧ r.1.tables = v.tables ∧ r.1.notes.arbiter = true ∧
        (account r.1 ≤ allowance r.1 ∨ ∀ l, (r.1.line l).powered = false) ∧
        (account v ≤ modeBudget e m → r.1.lines = v.lines))))

/-! ## Requests about lines and tests (R20, R22, R28, R130, R132, R133, R146, R147) -/

namespace Sys2Proof.Claims

/-- R132: the record of a line after an on-demand request is merged into it. -/
def merged (old : TestReq) (steps : StepSet) (force : Bool) (tag : Nat) : TestReq :=
  { old with origins := old.origins ||| 1#3, steps := old.steps ||| steps, force := old.force || force, tag := some tag }

/-- A line taken to PARKED with a LISTEN entry, outside DORMANT; a scan follows (R22). -/
def parkedAgain (l : LineNo) (u : State) : State :=
  let v := addWait l .listen none { withLine u l { u.line l with state := .parked, backoff := 0, mode := .off } with
    out := u.out ++ modeMessage l (u.line l).mode .off }
  { v with notes := { v.notes with scan := true } }

/-- A line taken to DOWN (R6, R22). -/
def downAgain (l : LineNo) (u : State) : State :=
  { withLine u l { u.line l with state := .down, backoff := 0, mode := .off } with
    out := u.out ++ modeMessage l (u.line l).mode .off }

end Sys2Proof.Claims

/-- R179, R130, R132, R133: Request Test. It is refused for a line that is DOWN, BLOCKED or TESTING, merged into the entry the line has,
refused where the queue holds 12 entries, and otherwise joins the queue in its place with the next stamp; where that stamp is
4294967295, the entries are stamped anew (R129). R134, R147, and R22, R146: Cancel Test and Unblock Line, by where the line's test
stands and by the line's state. The model's choices in it: a cancelled test has each step that is still PENDING SKIPPED as the bus
enters RESTORE (assumption 17); and the response joins the control queue before the scan, the run of the test arbiter and the choice
after a test that they start (assumptions 10 and 45). -/
def Obligations.TestAndUnblockRequests : Prop :=
  (∀ (s : State) (h : Header) (n steps force : Byte) (rest : List Bytes), Asked s h 6 [n, steps, force] rest →
     let r := exec .requestTest s
     let u := taken s rest
     let st : StepSet := steps.setWidth 4
     ((n.toNat = 0 ∨ 48 < n.toNat) → r = .next (chooseFrame (replied h 6 6 u))) ∧
     ∀ l : LineNo, n.toNat = lineNumber l →
       let x := s.line l
       let free := x.state ≠ .down ∧ x.state ≠ .blocked ∧ x.state ≠ .testing
       (¬ free → r = .next (chooseFrame (replied h 6 11 u))) ∧
       (∀ old, free → queuedTest s l = some old → testQueueGood s.test.queue → ∃ q, testQueueGood q ∧
         q.Perm (merged old st (decide (force ≠ 0)) h.tag :: s.test.queue.filter fun e => e.line ≠ l) ∧
         r = .next (finish (replied h 6 0 { u with
           test := { s.test with queue := q }
           notes := { arbiter := decide (q.map TestReq.line ≠ s.test.queue.map TestReq.line) } }))) ∧
       (free → queuedTest s l = none → 12 ≤ s.test.queue.length → r = .next (chooseFrame (replied h 6 12 u))) ∧
       (free → queuedTest s l = none → s.test.queue.length < 12 → s.test.stampCount < 4294967295 →
         testQueueGood s.test.queue → (∀ e ∈ s.test.queue, e.stamp < s.test.stampCount) → ∃ q, testQueueGood q ∧
         q.Perm ({ line := l, origins := 1#3, steps := st, force := decide (force ≠ 0), defers := 0, stamp := s.test.stampCount,
                   tag := some h.tag } :: s.test.queue) ∧
         r = .next (finish (replied h 6 0 { u with
           test := { s.test with queue := q, stampCount := s.test.stampCount + 1 }
           notes := { arbiter := true } }))) ∧
       (free → queuedTest s l = none → s.test.queue.length < 12 → 4294967295 ≤ s.test.stampCount →
         testQueueGood s.test.queue → (∀ e ∈ s.test.queue, e.stamp < s.test.stampCount) → ∃ q q', testQueueGood q ∧
         q.Perm ({ line := l, origins := 1#3, steps := st, force := decide (force ≠ 0), defers := 0, stamp := s.test.stampCount,
                   tag := some h.tag } :: s.test.queue) ∧
         q'.map unstamped = q.map unstamped ∧ renumbered (q.map TestReq.stamp) (q'.map TestReq.stamp) ∧
         r = .next (finish (replied h 6 0 { u with
           test := { s.test with queue := q', stampCount := s.test.queue.length + 1 }
           notes := { arbiter := true } })))) ∧
  (∀ (s : State) (h : Header) (n : Byte) (rest : List Bytes),
     let u := taken s rest
     (Asked s h 7 [n] rest →
       let r := exec .cancelTest s
       ((n.toNat = 0 ∨ 48 < n.toNat) → r = .next (chooseFrame (replied h 7 6 u))) ∧
       ∀ l : LineNo, n.toNat = lineNumber l →
         (∀ e, queuedTest s l = some e → r = .next (finish (replied h 7 0 (raisePart .testDone { u with
           test := { s.test with queue := s.test.queue.filter fun x => x.line ≠ l }
           results := s.results.set l
             { verdict := some .cancelled, endTime := s.time.now, origins := e.origins, tag := e.tag, steps := e.steps }
           notes := { arbiter := true } })))) ∧
         (∀ t, queuedTest s l = none → s.test.current = some t → t.req.line = l →
           ((s.test.bus = .prepare ∨ s.test.bus = .measure) →
             r = .next (chooseFrame (replied h 7 0 (restoring (verdicted .cancelled t) u)))) ∧
           ((s.test.bus = .restore ∨ s.test.bus = .fault) → r = .next (chooseFrame (replied h 7 14 u)))) ∧
         (queuedTest s l = none → (∀ t, s.test.current = some t → t.req.line ≠ l) →
           r = .next (chooseFrame (replied h 7 13 u)))) ∧
     (Asked s h 8 [n] rest →
       let r := exec .unblockLine s
       ((n.toNat = 0 ∨ 48 < n.toNat) → r = .next (chooseFrame (replied h 8 6 u))) ∧
       ∀ l : LineNo, n.toNat = lineNumber l →
         ((s.line l).state ≠ .blocked → r = .next (chooseFrame (replied h 8 11 u))) ∧
         (∀ t, (s.line l).state = .blocked → s.test.bus = .fault → s.test.current = some t → t.req.line = l →
           (t.retry = true → r = .next (chooseFrame (replied h 8 10 u))) ∧
           (t.retry = false → r = .next (chooseFrame (replied h 8 1 { u with
             test := { s.test with current := some { t with retry := true, stageTimer := s.tables.test.restoreMs } }
             out := [.release (some l)] })))) ∧
         ((s.line l).state = .blocked → s.power.mode ≠ .dormant → ¬ (s.test.bus = .fault ∧ ∃ t, s.test.current = some t ∧ t.req.line = l) →
           r = .next (finish (replied h 8 0 (if (s.service l).enabled then parkedAgain l u else downAgain l u))))))

/-- R20, R28: Force Retrain, by the line's state, the transmit arbiter choosing before the response is queued where the line leaves service
(R99, R101); and the retrain window: a retrain is counted, a window that has run out starts again, and
the count that reaches autotest_retrains asks for an AUTO test with LOOP_R, CAP and INSUL and becomes 0. R131 to R133: a request of the
part's own, AUTO or SCHEDULED, is dropped in DORMANT and for a line that is DOWN, BLOCKED or TESTING, merged into the entry the line
has, dropped with TEST_DROPPED where the queue holds 12 entries, and otherwise joins the queue in its place with the next stamp;
where that stamp is 4294967295, the entries are stamped anew (R129). The model's choices in it: assumptions 10, 32 and 45. -/
def Obligations.RetrainsForcedAndCounted : Prop :=
  (∀ (s : State) (h : Header) (n : Byte) (rest : List Bytes), Asked s h 9 [n] rest →
    let r := exec .forceRetrain s
    let u := taken s rest
    ((n.toNat = 0 ∨ 48 < n.toNat) → r = .next (chooseFrame (replied h 9 6 u))) ∧
    ∀ l : LineNo, n.toNat = lineNumber l →
      let x := s.line l
      let v := withLine u l { x with backoff := 0 }
      (x.state = .down ∨ x.state = .parked ∨ x.state = .testing ∨ x.state = .blocked →
        r = .next (chooseFrame (replied h 9 11 u))) ∧
      (x.state = .active ∨ x.state = .idleLow → ∃ t, retrained u l t ∧ r = .next (finish (replied h 9 0 (chooseFrame t)))) ∧
      (x.state = .training → ∃ t, rejoined u l t ∧ r = .next (finish (replied h 9 0 t))) ∧
      (x.state = .listening → waitKind s l ≠ none → r = .next (chooseFrame (replied h 9 0 v))) ∧
      (x.state = .listening → waitKind s l = none → ¬ trainGranted s l →
        r = .next (chooseFrame (replied h 9 0 (addWait l .train none v)))) ∧
      (x.state = .listening → waitKind s l = none → trainGranted s l → ∃ t, r = .next (finish (replied h 9 0 t)) ∧
        (t.line l).state = .training ∧ (t.line l).cost = s.tables.power.trainMw ∧ (t.line l).failures = x.failures ∧
        (∃ adv save, offers s l adv save ∧ (t.line l).exchange = some (openedExchange s l adv save)) ∧
        (∀ k, k ≠ l → t.line k = s.line k) ∧ t = { u with lines := t.lines, out := t.out, notes := t.notes })) ∧
  (∀ (u : State) (l : LineNo),
    let sv := u.service l
    let x := u.line l
    let spent := ∀ t, x.windowStart = some t → t + 1000 * sv.autoWindowS ≤ u.time.now
    let start := fun n => withLine u l { x with windowStart := some u.time.now, retrains := n }
    let go := fun n => withLine u l { x with retrains := n }
    let reached := fun n => sv.autoRetrains ≠ 0 ∧ sv.autoRetrains ≤ n
    (spent → ¬ reached 1 → countRetrain l u = start 1) ∧
    (spent → reached 1 → countRetrain l u = requestOwn l 2#3 14#4 (start 0)) ∧
    (¬ spent → ¬ reached (min 255 (x.retrains + 1)) → countRetrain l u = go (min 255 (x.retrains + 1))) ∧
    (¬ spent → reached (min 255 (x.retrains + 1)) → countRetrain l u = requestOwn l 2#3 14#4 (go 0))) ∧
  (∀ (u : State) (l : LineNo) (origin : OriginSet) (steps : StepSet), origin.getLsbD 0 = false →
    let r := requestOwn l origin steps u
    let state := (u.line l).state
    let free := u.power.mode ≠ .dormant ∧ state ≠ .down ∧ state ≠ .blocked ∧ state ≠ .testing
    (¬ free → r = u) ∧
    (∀ old, free → queuedTest u l = some old → testQueueGood u.test.queue → ∃ q, testQueueGood q ∧
      q.Perm ({ old with origins := old.origins ||| origin, steps := old.steps ||| steps } ::
        u.test.queue.filter fun e => e.line ≠ l) ∧
      r = { u with
        test := { u.test with queue := q }
        notes := { u.notes with
          arbiter := u.notes.arbiter || decide (q.map TestReq.line ≠ u.test.queue.map TestReq.line) } }) ∧
    (free → queuedTest u l = none → 12 ≤ u.test.queue.length → r = raisePart .testDropped u) ∧
    (free → queuedTest u l = none → u.test.queue.length < 12 → u.test.stampCount < 4294967295 → testQueueGood u.test.queue →
      (∀ e ∈ u.test.queue, e.stamp < u.test.stampCount) → ∃ q, testQueueGood q ∧
      q.Perm ({ line := l, origins := origin, steps := steps, force := false, defers := 0, stamp := u.test.stampCount, tag := none } ::
        u.test.queue) ∧
      r = { u with
        test := { u.test with queue := q, stampCount := u.test.stampCount + 1 }, notes := { u.notes with arbiter := true } }) ∧
    (free → queuedTest u l = none → u.test.queue.length < 12 → 4294967295 ≤ u.test.stampCount → testQueueGood u.test.queue →
      (∀ e ∈ u.test.queue, e.stamp < u.test.stampCount) → ∃ q q', testQueueGood q ∧
      q.Perm ({ line := l, origins := origin, steps := steps, force := false, defers := 0, stamp := u.test.stampCount, tag := none } ::
        u.test.queue) ∧
      q'.map unstamped = q.map unstamped ∧ renumbered (q.map TestReq.stamp) (q'.map TestReq.stamp) ∧
      r = { u with
        test := { u.test with queue := q', stampCount := u.test.queue.length + 1 }, notes := { u.notes with arbiter := true } }))

/-! ## Time, DORMANT, restart and the image (R122, R165, R187 to R189) -/

namespace Sys2Proof.Claims

/-- R122: some event is pending. -/
def eventPending (e : EventSet) : Prop := e.lineUp ≠ 0 ∨ e.lineLost ≠ 0 ∨ e.trainFail ≠ 0 ∨ e.shed ≠ 0 ∨ e.part ≠ 0

end Sys2Proof.Claims

/-- R165, R122, R187: Set Time, Enter Dormant and Restart, and the restart made 100 ms after an accepted Restart whose response has
not left; before that, or with none asked for, RESTART_FALLBACK makes none. The model's choices in it: assumptions 2 and 30; that a
restart takes the pins last sampled (assumption 33); and what it makes of the terminal (assumptions 40 and 46). -/
def Obligations.TimeDormantAndRestartRequests : Prop :=
  ∀ (s : State) (h : Header) (rest : List Bytes),
    let u := taken s rest
    (∀ t, t < 281474976710656 → Asked s h 10 (beBytes 6 t) rest →
      exec .setTime s = .next (chooseFrame (replied h 10 0 { u with time := { s.time with now := t } }))) ∧
    (Asked s h 11 [] rest →
      let r := exec .enterDormant s
      let free := s.power.entryPending = false
      (¬ free → r = .next (chooseFrame (replied h 11 10 u))) ∧
      (free → ¬ armed s.tables → r = .next (chooseFrame (replied h 11 15 u))) ∧
      (free → armed s.tables → eventPending s.mgmt.pending → r = .next (chooseFrame (replied h 11 16 u))) ∧
      (free → armed s.tables → ¬ eventPending s.mgmt.pending → r = .next (chooseFrame
        (answered h 11 0 0 0xFFFF [] .dormantResponse { u with
          power := { s.power with entryPending := true, entryTimer := 0 } })))) ∧
    (∀ k : Byte, Asked s h 12 [k] rest →
      let kind : RestartKind := if k = 0 then .warm else .cold
      (s.mgmt.restartPending = none → exec .restart s = .next (chooseFrame
        (answered h 12 0 0 0xFFFF [] .restartResponse { u with
          mgmt := { u.mgmt with restartPending := some kind, restartTimer := 0 } }))) ∧
      (∀ first, s.mgmt.restartPending = some first → exec .restart s = .next (chooseFrame (replied h 12 0 { u with
        mgmt := { u.mgmt with restartPending := some (if first = .cold ∨ kind = .cold then .cold else .warm) } })))) ∧
    (s.stage = .run →
      (s.mgmt.restartPending = some .warm → 100 ≤ s.mgmt.restartTimer →
        exec .restartFallback s = exec (.warmRestart s.pins.feedOk) s) ∧
      (s.mgmt.restartPending = some .cold → 100 ≤ s.mgmt.restartTimer →
        exec .restartFallback s = exec (.coldStart s.pins.straps s.pins.feedOk) s) ∧
      ((s.mgmt.restartPending = none ∨ s.mgmt.restartTimer < 100) → exec .restartFallback s = .next (chooseFrame (opened s))))

/-- R188, R189: an image save. Save Image builds the image from the tables as they stand with the count plus 1, and begins the
erase; the erase, the programming and the read-back follow each other; the save ends with IMAGE_SAVED and the new count where the
read-back matches, and with IMAGE_FAILED where it differs or 3000 ms have passed. A command that is not due changes nothing. The
model's choices in it: assumptions 2 and 20. -/
def Obligations.ImageSaves : Prop :=
  ∀ s : State, s.stage = .run →
    let im := s.image
    let same : Host.Outcome State Fault Refusal := .next (chooseFrame (opened s))
    let ended (count : Nat) : State :=
      { opened s with image := { phase := .idle, count := count, building := none, timer := 0, region := im.region } }
    (∀ h rest, Asked s h 13 [] rest →
      (im.phase ≠ .idle → exec .saveImage s = .next (chooseFrame (replied h 13 10 (taken s rest)))) ∧
      (im.phase = .idle → exec .saveImage s = .next (chooseFrame (replied h 13 1 { taken s rest with
        image := { phase := .erasing, count := im.count, building := some ⟨min 65535 (im.count + 1), s.tables⟩, timer := 0
                   region := .partly }
        out := [.flashErase] })))) ∧
    (∀ i, im.building = some i →
      (im.phase = .erasing → exec .saveEraseOrProgramDone s = .next (chooseFrame { opened s with
        image := { im with phase := .programming }, out := [.flashProgram i] })) ∧
      (im.phase = .programming → exec .saveEraseOrProgramDone s = .next (chooseFrame { opened s with
        image := { im with phase := .readingBack, region := .programmed i }, out := [.flashReadBack] })) ∧
      (im.phase = .readingBack →
        exec (.saveReadbackDone i.bytes) s = .next (chooseFrame (raisePart .imageSaved (ended i.count))) ∧
        ∀ data, data ≠ i.bytes →
          exec (.saveReadbackDone data) s = .next (chooseFrame (raisePart .imageFailed (ended im.count))))) ∧
    (∀ data, im.phase ≠ .readingBack → exec (.saveReadbackDone data) s = same) ∧
    ((im.phase = .idle ∨ im.phase = .readingBack) → exec .saveEraseOrProgramDone s = same) ∧
    (im.phase ≠ .idle → 3000 ≤ im.timer →
      exec .saveTimeout s = .next (chooseFrame (raisePart .imageFailed (ended im.count)))) ∧
    ((im.phase = .idle ∨ im.timer < 3000) → exec .saveTimeout s = same)

/-! ## Events and notifications (R181 to R184) -/

namespace Sys2Proof.Claims

/-- R183, first row: in IDLE, something new with a station to tell makes the notification DUE. -/
def madeDue (u v : State) : Prop :=
  (u.mgmt.notif = .idle → tellable u → v = { u with mgmt := { u.mgmt with notif := .due } }) ∧
  (¬ (u.mgmt.notif = .idle ∧ tellable u) → v = u)

/-- R182: the state `b` is `a` with the named lines taken from the named LINE kinds, and without the other kinds named. -/
def clearedOf (kinds : BitVec 20) (lines : LineSet) (a b : EventSet) : Prop :=
  (∀ (k : LineEvent) (l : LineNo), mem (b.linesOfKind k) l =
    (mem (a.linesOfKind k) l && !(mem kinds k.index && mem lines l))) ∧
  ∀ (k : Fin 16) (j : Fin 20), j.val = k.val + 4 → mem b.part k = (mem a.part k && !mem kinds j)

end Sys2Proof.Claims

/-- R181 with R183: an event of a kind whose enable is yes joins the pending state, a LINE kind with its line, RESTART and WAKE with their
detail, and may make a notification due; one of a kind whose enable is no leaves no trace. -/
def Obligations.EventsCaptured : Prop :=
  ∀ u : State,
    (∀ (k : LineEvent) (l : LineNo),
      (kindEnabled u k.index = false → raiseLine k l u = u) ∧
      (kindEnabled u k.index = true → ∃ p : EventSet,
        madeDue { u with mgmt := { u.mgmt with pending := p } } (raiseLine k l u) ∧ p.part = u.mgmt.pending.part ∧
        (∀ j m, mem (p.linesOfKind j) m = (mem (u.mgmt.pending.linesOfKind j) m || decide (j = k ∧ m = l))))) ∧
    (∀ k : PartEvent,
      (kindEnabled u k.index = false → raisePart k u = u) ∧
      (kindEnabled u k.index = true → ∃ p : EventSet,
        madeDue { u with mgmt := { u.mgmt with pending := p } } (raisePart k u) ∧
        (∀ j, p.linesOfKind j = u.mgmt.pending.linesOfKind j) ∧
        (∀ j, mem p.part j = (mem u.mgmt.pending.part j || decide (j = k.bit))))) ∧
    (∀ kind, raiseRestart kind u = if kindEnabled u 14 then
      raisePart .restart { u with mgmt := { u.mgmt with restartDetail := some kind } } else u) ∧
    raiseWake u = (if kindEnabled u 8 then raisePart .wake { u with mgmt := { u.mgmt with wakeDetail := u.power.lastCause } } else u)

/-- R182, R183, R184: Clear Events takes what it names from the pending and the last-notified state. NOTIFICATION_BUILD places a due
notification outside DORMANT where the control queue has room, or falls back to IDLE where there is nothing to tell; HOLDOFF_END
ends a holdoff that has run out. Neither does anything else, and a command that is not due changes nothing. The model's choices in
it: assumption 2; and in the bytes of the notification, the first refused index 0xFFFF (assumption 44) and 0 for a detail whose kind
is not pending (assumption 15). -/
def Obligations.EventsClearedAndNotified : Prop :=
  ∀ s : State, s.stage = .run →
    let same : Host.Outcome State Fault Refusal := .next (chooseFrame (opened s))
    (∀ h rest (kinds lines : Nat), kinds < 16777216 → lines < 281474976710656 →
      Asked s h 5 (beBytes 3 kinds ++ beBytes 6 lines) rest → ∃ p q : EventSet,
        exec .clearEvents s = .next (chooseFrame (replied h 5 0 { taken s rest with
          mgmt := { s.mgmt with requests := rest, pending := p, last := q } })) ∧
        clearedOf (BitVec.ofNat 20 kinds) (BitVec.ofNat 48 lines) s.mgmt.pending p ∧
        clearedOf (BitVec.ofNat 20 kinds) (BitVec.ofNat 48 lines) s.mgmt.last q) ∧
    (let may := s.mgmt.notif = .due ∧ s.uplink.control.length < 4 ∧ s.power.mode ≠ .dormant
     (¬ may → exec .notificationBuild s = same) ∧
     (may → tellable s → exec .notificationBuild s = .next (chooseFrame (notified (opened s)))) ∧
     (may → ¬ tellable s → exec .notificationBuild s = .next (chooseFrame { opened s with mgmt := { s.mgmt with notif := .idle } }))) ∧
    (let may := s.mgmt.notif = .holdoff ∧ s.mgmt.holdoff = 0
     (¬ may → exec .holdoffEnd s = same) ∧
     (may → tellable s → exec .holdoffEnd s = .next (chooseFrame { opened s with mgmt := { s.mgmt with notif := .due } })) ∧
     (may → ¬ tellable s → exec .holdoffEnd s = .next (chooseFrame { opened s with mgmt := { s.mgmt with notif := .idle } })))

/-! ## The millisecond (R9, R15, R17, R18, R37, R92, R97, R107, R108, R137 to R146, R163, R168 to R170, R183, R187, R189) -/

namespace Sys2Proof.Claims

/-- R163: cabinet time one higher, at most the largest 48-bit value, and the next millisecond started on the reference in use. -/
def nextMillisecond (t : TimeSettings) (x : TimeBase) : TimeBase :=
  let khz := match x.inUse with | .oscillator => t.localKhz | .recovered => t.uplinkKhz
  let frac := match x.inUse with | .oscillator => t.localFrac | .recovered => t.uplinkFrac
  let sum := x.phase + frac
  { x with
    now := min 281474976710655 (x.now + 1), periodCount := 0
    phase := if sum < 65536 then sum else sum - 65536
    msLength := if sum < 65536 then khz else khz + 1 }

/-- R17: the idle time in force: idle_ms in NORMAL, and the smaller of it and save_idle_ms, of those that are not 0, in other modes. -/
def idleLimit (mode : Mode) (idleMs saveMs : Nat) : Nat :=
  if mode = .normal then idleMs else if idleMs = 0 then saveMs else if saveMs = 0 then idleMs else min idleMs saveMs

/-- A line at a tick: R92 for the credit, R17 and R18 for the idle timer, R9 for the backoff, R37 for the page timer. -/
def lineTicked (s : State) (l : LineNo) : Line :=
  let x := s.line l
  let sv := s.service l
  let limit := idleLimit s.power.mode sv.idleMs s.tables.power.saveIdleMs
  { x with
    credit := min sv.burst (x.credit + x.allocation)
    idle := (match x.idle with
      | .running ms => if limit ≠ 0 ∧ limit ≤ ms + 1 then .expired else .running (ms + 1)
      | .stopped => .stopped
      | .expired => .expired)
    backoff := if x.state = .listening then x.backoff - 1 else x.backoff
    exchange := (match x.exchange with
      | some e => some { e with timer := min e.limit (e.timer + 1) }
      | none => none) }

/-- The state after the tick has been taken by cabinet time, by every timer and by the credits, before the alarms are judged. -/
def ticked (feedOk : Bool) (s : State) : State :=
  let p := s.power
  let count := if feedOk = p.settled then 0 else min 60000 (p.settleCount + 1)
  let runs : Bool := match s.test.current with
    | some t => decide (s.test.bus = .prepare ∨ s.test.bus = .measure ∨ s.test.bus = .restore ∨ (s.test.bus = .fault ∧ t.retry = true))
    | none => false
  { opened s with
    time := nextMillisecond s.tables.time s.time
    pins := { s.pins with feedOk := feedOk }
    lines := Vector.ofFn (lineTicked s)
    links := Vector.ofFn fun k => { s.links[k] with silence := s.links[k].silence + 1 }
    uplink := { s.uplink with hold := s.uplink.hold - 1 }
    power := { p with
      settleCount := count
      settleDue := decide (feedOk ≠ p.settled ∧ s.tables.power.feedSettleMs ≤ count)
      pollTimer := min 1000 (p.pollTimer + 1)
      entryTimer := if p.entryPending then min 100 (p.entryTimer + 1) else p.entryTimer }
    test := { s.test with
      quiet := s.test.quiet - 1
      quietDue := s.test.quietDue || decide (s.test.quiet = 1)
      current := (match s.test.current with
        | some t => some (if runs then { t with stageTimer := t.stageTimer - 1 } else t)
        | none => none) }
    mgmt := { s.mgmt with
      holdoff := if s.mgmt.notif = .holdoff then s.mgmt.holdoff - 1 else s.mgmt.holdoff
      restartTimer := if s.mgmt.restartPending.isSome then min 100 (s.mgmt.restartTimer + 1) else s.mgmt.restartTimer }
    image := if s.image.phase = .idle then s.image else { s.image with timer := min 3000 (s.image.timer + 1) } }

/-- R168: an entry fires. -/
def alarmDue (u : State) (i : Fin 8) : Prop := u.tables.alarms[i].enabled = true ∧ u.tables.alarms[i].time ≤ u.time.now

/-- R168: the entry that has fired: a one-shot is disabled, and so is one whose next time would pass the largest 48-bit value; the time of
another is the first of its periods above now. -/
def afterFiring (a b : Alarm) (now : Nat) : Prop :=
  (a.periodMs = 0 → b = { a with enabled := false }) ∧
  (0 < a.periodMs → ∃ n, now < a.time + n * a.periodMs ∧ (∀ m, now < a.time + m * a.periodMs → n ≤ m) ∧
    b = if a.time + n * a.periodMs ≤ 281474976710655 then { a with time := a.time + n * a.periodMs } else { a with enabled := false })

end Sys2Proof.Claims

/-- R163 with R9, R17, R37, R92, R97, R107, R108, R137, R183, R187 and R189: MILLISECOND_TICK moves cabinet time, every timer and
the credits, makes the transmit arbiter's choice that this allows (R99), and then judges the alarms in ascending index, what each
raises being acted on before the next. The ends of a backoff
and of a hold, which the tick has brought to 0, request nothing: what remains is the choice the transmit arbiter may make. R168 to
R170, with R126 and R131: an alarm that is due updates its entry and takes its action, and the scan and the run of the test arbiter
that the action calls for are made. The model's choices in it: assumptions 3, 10, 12, 14, 21, 33, 37 and 45. -/
def Obligations.TickMovesTimersAndFiresAlarms : Prop :=
  (∀ s : State, s.stage = .run →
     (∀ b, exec (.millisecondTick b) s = .next (finish ((List.finRange 8).foldl judgeAlarm (chooseFrame (ticked b s))))) ∧
     (∀ b, (∀ i, ¬ alarmDue (ticked b s) i) → exec (.millisecondTick b) s = .next (chooseFrame (ticked b s))) ∧
     (∀ l, exec (.backoffEnd l) s = .next (chooseFrame (opened s))) ∧ exec .holdEnd s = .next (chooseFrame (opened s))) ∧
  (∀ (u : State) (i : Fin 8), u.notes = {} →
     (¬ alarmDue u i → judgeAlarm u i = u) ∧
     (alarmDue u i → ∃ b, afterFiring u.tables.alarms[i] b u.time.now ∧
       let a := u.tables.alarms[i]
       let v := { u with tables := { u.tables with alarms := u.tables.alarms.set i b } }
       (a.action = .wake → u.power.mode ≠ .dormant → judgeAlarm u i = v) ∧
       (a.action = .wake → u.power.mode = .dormant →
         let w := { v with power := { u.power with latches := { u.power.latches with alarm := true } } }
         let x := { w with power := { w.power with wakeTaken := true, lastCause := some ⟨.alarm, i.val, u.time.now⟩ } }
         (u.power.wakeTaken = true → judgeAlarm u i = w) ∧
         (u.power.wakeTaken = false → ¬ carries u → judgeAlarm u i = x) ∧
         (u.power.wakeTaken = false → carries u → judgeAlarm u i = settle (dormantExit x))) ∧
       (a.action = .windowOpen → u.time.windowOpen = true → judgeAlarm u i = v) ∧
       (a.action = .windowOpen → u.time.windowOpen = false →
         judgeAlarm u i = settle { v with time := { u.time with windowOpen := true }, notes := { arbiter := true } }) ∧
       (a.action = .windowClose → judgeAlarm u i = { v with time := { u.time with windowOpen := false } }) ∧
       (a.action = .testLines → u.power.mode = .dormant → judgeAlarm u i = v) ∧
       (a.action = .testLines → u.power.mode ≠ .dormant → judgeAlarm u i = settle
         (((List.finRange 48).filter fun l => a.lines.getLsbD l.val).foldl (fun w l => requestOwn l 4#3 a.steps w) v))))

/-! ## What every step keeps (R50, R63, R65, R114, R181) -/

/-- R50: after any step from a state that keeps the account of the cells, the free cells and the cells of the 96 queues make 3072. -/
def Obligations.CellsAreConserved : Prop :=
  ∀ s t : State, CellsKept s → step s = .next t → CellsKept t

/-- R1, R29, R30, R63 to R65, R72, R105, R160, R162, R167, R178, R180, R181: after any step from a state whose tables lie in their ranges,
whose Forwarding Table holds each tag once, and in which no kind is pending whose enable is no, the same holds. -/
def Obligations.TablesStayGood : Prop :=
  ∀ s t : State, TablesKept s → step s = .next t → TablesKept t

/-- R114: after any step from a state whose committed power is within the budget, and whose costs follow the states as the rules say, the
same holds. -/
def Obligations.CommittedPowerStaysWithinBudget : Prop :=
  ∀ s t : State, PowerKept s → step s = .next t → PowerKept t

/-- R3, R10, R11, R26, R33, R45, R62, R67, R77, R84, R92: after any step from a state whose lines hold what their states have them hold,
run and offer only profiles that they can use, and whose allocations and spare make the capacity snapshot, the same holds. -/
def Obligations.LinesStayGood : Prop :=
  ∀ s t : State, TablesKept s → PowerKept s → LinesKept s → step s = .next t → LinesKept t

/-- R98, R100, R116, R129, R133, R139, R171: after any step from a state whose Power Wait Queue and Test Queue stand in their order with
one entry a line at most, each in a state of its line that the rules allow, whose request and control queues hold 4 frames at most,
in which no line is TESTING but the current test's and a notification is queued only in QUEUED, the same holds. R163: cabinet time
moves by SET_TIME, by a millisecond at a tick, or at a cold start, and in no other step. R183: while a holdoff runs no step but a
restart leaves it, and its timer falls by one at a tick, so notifications are spaced by it. -/
def Obligations.QueuesStayGood : Prop :=
  ∀ s t : State, PowerKept s → QueuesKept s → step s = .next t → QueuesKept t ∧ ClockRuns s t ∧ HoldoffRuns s t

/-! ## Layouts (sections 12.1 to 12.5) -/

namespace Sys2Proof.Claims

/-- R186: the CRC-16 of bytes, bit by bit: the polynomial 0x1021 from 0xFFFF, each byte's most significant bit first. -/
def checksum (bs : Bytes) : BitVec 16 :=
  (bs.flatMap fun b => [7, 6, 5, 4, 3, 2, 1, 0].map fun i => b.getLsbD i).foldl
    (fun c bit => if c.getLsbD 15 = bit then c <<< 1 else (c <<< 1) ^^^ 0x1021#16) 0xFFFF#16

/-- R186, with R64 and R178: the bytes of a read spell a good image. They are 8192; the CRC field, the last two, holds the CRC of those
before it; the format word is 5A-43-34-01; each valid Forwarding entry names a line of 1 to 48 and a tag of 1 to 4094 that no valid
entry before it holds; and the management address is not all zero and not a group address. -/
def goodRead (data : Bytes) : Prop :=
  let byte (k : Nat) : Nat := (data.getD k 0).toNat
  let valid (i : Nat) : Prop := byte (1944 + 4 * i) ≠ 0
  let tag (i : Nat) : Nat := 256 * byte (1945 + 4 * i) + byte (1946 + 4 * i)
  let line (i : Nat) : Nat := byte (1947 + 4 * i)
  data.length = 8192 ∧ (checksum (data.take 8190)).toNat = 256 * byte 8190 + byte 8191 ∧ data.take 4 = [0x5A, 0x43, 0x34, 0x01] ∧
  (∀ i, i < 192 → valid i → 1 ≤ line i ∧ line i ≤ 48 ∧ 1 ≤ tag i ∧ tag i ≤ 4094 ∧ ∀ j, j < i → valid j → tag j ≠ tag i) ∧
  (∃ k, k < 6 ∧ byte (2945 + k) ≠ 0) ∧ byte 2945 % 2 = 0

end Sys2Proof.Claims

/-- The keep image (R186, section 12.5). An image is good where its length, its CRC, its format word, its Forwarding entries and its
management address are, and bad otherwise; the CRC of the nine ASCII digits is 0x29B1. Each entry is read from its place as a write
would store it. And the image built from tables in their ranges takes 8192 bytes, is good, and reads back as itself: no field of any
table is lost between a save and the load of it. -/
def Obligations.SavedImageLoadsBack : Prop :=
  (∀ data : Bytes, imageGood data = true ↔ goodRead data) ∧
  checksum [0x31, 0x32, 0x33, 0x34, 0x35, 0x36, 0x37, 0x38, 0x39] = 0x29B1#16 ∧
  (∀ data : Bytes, data.length = 8192 →
    let slice (offset size : Nat) : Bytes := (data.drop offset).take size
    let t := (readImage data).tables
    (readImage data).count = beNat (slice 4 2) ∧ (∀ l : LineNo, t.service[l] = readService (slice (6 + 33 * l.val) 33)) ∧
    (∀ p : ProfileNo, t.profiles[p] = readProfile (slice (1590 + 22 * p.val) 22)) ∧ t.pageMs = readPageMs (slice 1942 2) ∧
    (∀ i : Fin 192, t.forwarding[i] = readForward (slice (1944 + 4 * i.val) 4)) ∧ t.uplink = readUplinkSettings (slice 2712 6) ∧
    t.power = readPower (slice 2718 33) ∧ t.test = readTest (slice 2751 26) ∧ t.time = readTimeSettings (slice 2777 13) ∧
    (∀ i : Fin 8, t.alarms[i] = readAlarm (slice (2790 + 19 * i.val) 19)) ∧ t.eventEnable = readEnables (slice 2942 3) ∧
    t.mgmt = readMgmt (slice 2945 14)) ∧
  ∀ i : Image, i.count ≤ 65535 → TablesInRange i.tables → TagsDiffer i.tables.forwarding → usableAddress i.tables.mgmt.mgmtAddress = true →
    i.bytes.length = 8192 ∧ imageGood i.bytes = true ∧ readImage i.bytes = i

namespace Sys2Proof.Claims

/-- A value outside a range goes to its nearer end. -/
def within (lo hi v : Nat) : Nat := if v < lo then lo else if hi < v then hi else v

/-- 0, or within a range. -/
def zeroOr (lo hi v : Nat) : Nat := if v = 0 then 0 else within lo hi v

end Sys2Proof.Claims

/-- R1, R29, R30, R63, R72, R105, R160, R162, R167, R178, R180, R190 and sections 12.1, 12.3: what each table stores of the bytes of
a written entry, field by field in the order of its table, with each field outside its range treated as the table says. The model's
choices in it: assumption 15. -/
def Obligations.EntryLayouts : Prop :=
  ∀ (y z : Byte) (a b c d e f g h i j k m n : Nat) (w : BitVec 48),
    (a < 65536 → b < 65536 → c < 256 → d < 4294967296 → e < 4294967296 → f < 65536 → g < 65536 → h < 4294967296 → i < 256 → j < 256 →
      k < 4294967296 → m < 4294967296 →
      readService ([y] ++ beBytes 2 a ++ beBytes 2 b ++ beBytes 1 c ++ beBytes 4 d ++ beBytes 4 e ++ [z] ++ beBytes 2 f ++ beBytes 2 g ++
          beBytes 4 h ++ beBytes 1 i ++ beBytes 1 j ++ beBytes 4 k ++ beBytes 4 m) =
        { enabled := decide (y ≠ 0), upTag := within 0 4094 a, allowed := BitVec.ofNat 16 b, weight := within 1 255 c
          guarantee := within 0 1000000 d, burst := within 12288 4194304 e, borrow := decide (z ≠ 0), upqCells := within 16 1024 f
          dnqCells := within 16 1024 g, idleMs := zeroOr 1000 600000 h, shedClass := within 0 2 i, autoRetrains := j
          autoWindowS := within 60 86400 k, lineId := m }) ∧
    (a < 4294967296 → b < 4294967296 → c < 4294967296 → d < 65536 → e < 65536 → f < 65536 → g < 65536 →
      readProfile ([y] ++ beBytes 4 a ++ beBytes 4 b ++ beBytes 4 c ++ beBytes 2 d ++ beBytes 2 e ++ beBytes 2 f ++ beBytes 2 g ++ [z]) =
        { valid := decide (y ≠ 0), downKbps := within 0 1000000 a, upKbps := within 0 1000000 b
          trickleKbps := within 0 (within 0 1000000 b) c, reach := d, maxAtten := within 0 1000 e, activeMw := within 0 5000 f
          idleMw := within 0 (within 0 5000 f) g, idleAllowed := decide (z ≠ 0) }) ∧
    (a < 65536 → readPageMs (beBytes 2 a) = within 200 2000 a) ∧
    (a < 65536 → b < 256 → readForward ([y] ++ beBytes 2 a ++ beBytes 1 b) =
      if y = 0 then ⟨false, within 0 4095 a, within 0 48 b⟩ else ⟨true, a, b⟩) ∧
    (a < 4294967296 → b < 256 → c < 256 → readUplinkSettings (beBytes 4 a ++ beBytes 1 b ++ beBytes 1 c) =
      ⟨within 0 10000000 a, within 50 100 b, within 0 50 c⟩) ∧
    (a < 65536 → b < 65536 → c < 65536 → d < 65536 → e < 65536 → f < 256 → g < 4294967296 → h < 4294967296 → i < 4294967296 →
      j < 4294967296 → k < 65536 → m < 256 → ∀ x : Byte,
      let cutoff := within 0 99999 g
      let reserve := if within 1 100000 h ≤ cutoff then cutoff + 1 else within 1 100000 h
      let recover := if within 1 100000 i < reserve then reserve else within 1 100000 i
      readPower (beBytes 2 a ++ beBytes 2 b ++ beBytes 2 c ++ beBytes 2 d ++ beBytes 2 e ++ beBytes 1 f ++ beBytes 4 g ++ beBytes 4 h ++
          beBytes 4 i ++ beBytes 4 j ++ beBytes 2 k ++ beBytes 1 m ++ [x, y, z]) =
        { budgetNormal := a, budgetHoldup := b, budgetReserve := c, listenMw := within 0 500 d, trainMw := within 0 5000 e
          energyThreshold := f, cutoffMv := cutoff, reserveMv := reserve, recoverMv := recover, saveIdleMs := zeroOr 1000 600000 j
          feedSettleMs := within 100 60000 k, promoteCells := within 1 64 m, wakeOnFeed := decide (x ≠ 0)
          wakeOnButton := decide (y ≠ 0), wakeOnEnergy := decide (z ≠ 0) }) ∧
    (a < 65536 → b < 65536 → c < 65536 → d < 4294967296 → e < 256 → f < 4294967296 → g < 4294967296 → h < 4294967296 → i < 256 →
      j < 65536 →
      readTest (beBytes 2 a ++ beBytes 2 b ++ beBytes 2 c ++ beBytes 4 d ++ beBytes 1 e ++ beBytes 4 f ++ beBytes 4 g ++ beBytes 4 h ++
          beBytes 1 i ++ beBytes 2 j) =
        { prepareMs := within 100 10000 a, measureMs := within 100 30000 b, restoreMs := within 100 10000 c, quietMs := within 0 600000 d
          maxDefers := within 1 7 e, hazardMv := within 1 200000 f, openOhms := within 1 9999999 g
          insulMinKohm := within 1 9999999 h, capPerKm := within 30 80 i, testMw := within 0 5000 j }) ∧
    (a < 4294967296 → b < 65536 → c < 4294967296 → d < 65536 →
      readTimeSettings ([y] ++ beBytes 4 a ++ beBytes 2 b ++ beBytes 4 c ++ beBytes 2 d) =
        ⟨if y = 0 then .oscillator else .recovered, within 1000 100000 a, b, within 1000 100000 c, d⟩) ∧
    (a < 281474976710656 → b < 4294967296 → n < 256 →
      readAlarm ([y] ++ beBytes 6 a ++ beBytes 4 b ++ [z] ++ beBytes 6 w.toNat ++ beBytes 1 n) =
        ⟨decide (y ≠ 0), a, zeroOr 1000 4294967295 b,
          if z = 0 then .wake else if z = 1 then .windowOpen else if z = 2 then .windowClose else .testLines, w, BitVec.ofNat 4 n⟩) ∧
    (a < 16777216 → readEnables (beBytes 3 a) = BitVec.ofNat 20 a) ∧
    (a < 65536 → ∀ x : BitVec 48, readMgmt (beBytes 6 w.toNat ++ beBytes 6 x.toNat ++ beBytes 2 a) = ⟨w, x, within 100 60000 a⟩)
end

