-- ==== Sys2Proof/Laws/State.lean ====
section
/-! SUPPORT. What each update of the state reads back as, one lemma for each component and each update. -/

namespace Sys2Proof.Machine

variable (s : State)


section
variable (x : TimeBase)

@[simp] theorem setTime_stage : (s.setTime x).stage = s.stage := rfl
@[simp] theorem setTime_pins : (s.setTime x).pins = s.pins := rfl
@[simp] theorem setTime_time : (s.setTime x).time = x := rfl
@[simp] theorem setTime_tables : (s.setTime x).tables = s.tables := rfl
@[simp] theorem setTime_image : (s.setTime x).image = s.image := rfl
@[simp] theorem setTime_lines : (s.setTime x).lines = s.lines := rfl
@[simp] theorem setTime_links : (s.setTime x).links = s.links := rfl
@[simp] theorem setTime_pool : (s.setTime x).pool = s.pool := rfl
@[simp] theorem setTime_uplink : (s.setTime x).uplink = s.uplink := rfl
@[simp] theorem setTime_share : (s.setTime x).share = s.share := rfl
@[simp] theorem setTime_power : (s.setTime x).power = s.power := rfl
@[simp] theorem setTime_test : (s.setTime x).test = s.test := rfl
@[simp] theorem setTime_results : (s.setTime x).results = s.results := rfl
@[simp] theorem setTime_mgmt : (s.setTime x).mgmt = s.mgmt := rfl
@[simp] theorem setTime_notes : (s.setTime x).notes = s.notes := rfl
@[simp] theorem setTime_out : (s.setTime x).out = s.out := rfl
@[simp] theorem setTime_pending : (s.setTime x).pending = s.pending := rfl
@[simp] theorem setTime_line (l : LineNo) : (s.setTime x).line l = s.line l := rfl
@[simp] theorem setTime_service (l : LineNo) : (s.setTime x).service l = s.service l := rfl
@[simp] theorem setTime_profile (p : ProfileNo) : (s.setTime x).profile p = s.profile p := rfl
end

section
variable (x : Tables)

@[simp] theorem setTables_stage : (s.setTables x).stage = s.stage := rfl
@[simp] theorem setTables_pins : (s.setTables x).pins = s.pins := rfl
@[simp] theorem setTables_time : (s.setTables x).time = s.time := rfl
@[simp] theorem setTables_tables : (s.setTables x).tables = x := rfl
@[simp] theorem setTables_image : (s.setTables x).image = s.image := rfl
@[simp] theorem setTables_lines : (s.setTables x).lines = s.lines := rfl
@[simp] theorem setTables_links : (s.setTables x).links = s.links := rfl
@[simp] theorem setTables_pool : (s.setTables x).pool = s.pool := rfl
@[simp] theorem setTables_uplink : (s.setTables x).uplink = s.uplink := rfl
@[simp] theorem setTables_share : (s.setTables x).share = s.share := rfl
@[simp] theorem setTables_power : (s.setTables x).power = s.power := rfl
@[simp] theorem setTables_test : (s.setTables x).test = s.test := rfl
@[simp] theorem setTables_results : (s.setTables x).results = s.results := rfl
@[simp] theorem setTables_mgmt : (s.setTables x).mgmt = s.mgmt := rfl
@[simp] theorem setTables_notes : (s.setTables x).notes = s.notes := rfl
@[simp] theorem setTables_out : (s.setTables x).out = s.out := rfl
@[simp] theorem setTables_pending : (s.setTables x).pending = s.pending := rfl
@[simp] theorem setTables_line (l : LineNo) : (s.setTables x).line l = s.line l := rfl
end

section
variable (x : ImageStore)

@[simp] theorem setImage_stage : (s.setImage x).stage = s.stage := rfl
@[simp] theorem setImage_pins : (s.setImage x).pins = s.pins := rfl
@[simp] theorem setImage_time : (s.setImage x).time = s.time := rfl
@[simp] theorem setImage_tables : (s.setImage x).tables = s.tables := rfl
@[simp] theorem setImage_image : (s.setImage x).image = x := rfl
@[simp] theorem setImage_lines : (s.setImage x).lines = s.lines := rfl
@[simp] theorem setImage_links : (s.setImage x).links = s.links := rfl
@[simp] theorem setImage_pool : (s.setImage x).pool = s.pool := rfl
@[simp] theorem setImage_uplink : (s.setImage x).uplink = s.uplink := rfl
@[simp] theorem setImage_share : (s.setImage x).share = s.share := rfl
@[simp] theorem setImage_power : (s.setImage x).power = s.power := rfl
@[simp] theorem setImage_test : (s.setImage x).test = s.test := rfl
@[simp] theorem setImage_results : (s.setImage x).results = s.results := rfl
@[simp] theorem setImage_mgmt : (s.setImage x).mgmt = s.mgmt := rfl
@[simp] theorem setImage_notes : (s.setImage x).notes = s.notes := rfl
@[simp] theorem setImage_out : (s.setImage x).out = s.out := rfl
@[simp] theorem setImage_pending : (s.setImage x).pending = s.pending := rfl
@[simp] theorem setImage_line (l : LineNo) : (s.setImage x).line l = s.line l := rfl
@[simp] theorem setImage_service (l : LineNo) : (s.setImage x).service l = s.service l := rfl
@[simp] theorem setImage_profile (p : ProfileNo) : (s.setImage x).profile p = s.profile p := rfl
end

section
variable (x : Vector Line 48)

@[simp] theorem setLines_stage : (s.setLines x).stage = s.stage := rfl
@[simp] theorem setLines_pins : (s.setLines x).pins = s.pins := rfl
@[simp] theorem setLines_time : (s.setLines x).time = s.time := rfl
@[simp] theorem setLines_tables : (s.setLines x).tables = s.tables := rfl
@[simp] theorem setLines_image : (s.setLines x).image = s.image := rfl
@[simp] theorem setLines_lines : (s.setLines x).lines = x := rfl
@[simp] theorem setLines_links : (s.setLines x).links = s.links := rfl
@[simp] theorem setLines_pool : (s.setLines x).pool = s.pool := rfl
@[simp] theorem setLines_uplink : (s.setLines x).uplink = s.uplink := rfl
@[simp] theorem setLines_share : (s.setLines x).share = s.share := rfl
@[simp] theorem setLines_power : (s.setLines x).power = s.power := rfl
@[simp] theorem setLines_test : (s.setLines x).test = s.test := rfl
@[simp] theorem setLines_results : (s.setLines x).results = s.results := rfl
@[simp] theorem setLines_mgmt : (s.setLines x).mgmt = s.mgmt := rfl
@[simp] theorem setLines_notes : (s.setLines x).notes = s.notes := rfl
@[simp] theorem setLines_out : (s.setLines x).out = s.out := rfl
@[simp] theorem setLines_pending : (s.setLines x).pending = s.pending := rfl
@[simp] theorem setLines_line (l : LineNo) : (s.setLines x).line l = x[l] := rfl
@[simp] theorem setLines_service (l : LineNo) : (s.setLines x).service l = s.service l := rfl
@[simp] theorem setLines_profile (p : ProfileNo) : (s.setLines x).profile p = s.profile p := rfl
end

section
variable (x : Vector Link 6)

@[simp] theorem setLinks_stage : (s.setLinks x).stage = s.stage := rfl
@[simp] theorem setLinks_pins : (s.setLinks x).pins = s.pins := rfl
@[simp] theorem setLinks_time : (s.setLinks x).time = s.time := rfl
@[simp] theorem setLinks_tables : (s.setLinks x).tables = s.tables := rfl
@[simp] theorem setLinks_image : (s.setLinks x).image = s.image := rfl
@[simp] theorem setLinks_lines : (s.setLinks x).lines = s.lines := rfl
@[simp] theorem setLinks_links : (s.setLinks x).links = x := rfl
@[simp] theorem setLinks_pool : (s.setLinks x).pool = s.pool := rfl
@[simp] theorem setLinks_uplink : (s.setLinks x).uplink = s.uplink := rfl
@[simp] theorem setLinks_share : (s.setLinks x).share = s.share := rfl
@[simp] theorem setLinks_power : (s.setLinks x).power = s.power := rfl
@[simp] theorem setLinks_test : (s.setLinks x).test = s.test := rfl
@[simp] theorem setLinks_results : (s.setLinks x).results = s.results := rfl
@[simp] theorem setLinks_mgmt : (s.setLinks x).mgmt = s.mgmt := rfl
@[simp] theorem setLinks_notes : (s.setLinks x).notes = s.notes := rfl
@[simp] theorem setLinks_out : (s.setLinks x).out = s.out := rfl
@[simp] theorem setLinks_pending : (s.setLinks x).pending = s.pending := rfl
@[simp] theorem setLinks_line (l : LineNo) : (s.setLinks x).line l = s.line l := rfl
@[simp] theorem setLinks_service (l : LineNo) : (s.setLinks x).service l = s.service l := rfl
@[simp] theorem setLinks_profile (p : ProfileNo) : (s.setLinks x).profile p = s.profile p := rfl
end

section
variable (x : Pool)

@[simp] theorem setPool_stage : (s.setPool x).stage = s.stage := rfl
@[simp] theorem setPool_pins : (s.setPool x).pins = s.pins := rfl
@[simp] theorem setPool_time : (s.setPool x).time = s.time := rfl
@[simp] theorem setPool_tables : (s.setPool x).tables = s.tables := rfl
@[simp] theorem setPool_image : (s.setPool x).image = s.image := rfl
@[simp] theorem setPool_lines : (s.setPool x).lines = s.lines := rfl
@[simp] theorem setPool_links : (s.setPool x).links = s.links := rfl
@[simp] theorem setPool_pool : (s.setPool x).pool = x := rfl
@[simp] theorem setPool_uplink : (s.setPool x).uplink = s.uplink := rfl
@[simp] theorem setPool_share : (s.setPool x).share = s.share := rfl
@[simp] theorem setPool_power : (s.setPool x).power = s.power := rfl
@[simp] theorem setPool_test : (s.setPool x).test = s.test := rfl
@[simp] theorem setPool_results : (s.setPool x).results = s.results := rfl
@[simp] theorem setPool_mgmt : (s.setPool x).mgmt = s.mgmt := rfl
@[simp] theorem setPool_notes : (s.setPool x).notes = s.notes := rfl
@[simp] theorem setPool_out : (s.setPool x).out = s.out := rfl
@[simp] theorem setPool_pending : (s.setPool x).pending = s.pending := rfl
@[simp] theorem setPool_line (l : LineNo) : (s.setPool x).line l = s.line l := rfl
@[simp] theorem setPool_service (l : LineNo) : (s.setPool x).service l = s.service l := rfl
@[simp] theorem setPool_profile (p : ProfileNo) : (s.setPool x).profile p = s.profile p := rfl
end

section
variable (x : UplinkPort)

@[simp] theorem setUplink_stage : (s.setUplink x).stage = s.stage := rfl
@[simp] theorem setUplink_pins : (s.setUplink x).pins = s.pins := rfl
@[simp] theorem setUplink_time : (s.setUplink x).time = s.time := rfl
@[simp] theorem setUplink_tables : (s.setUplink x).tables = s.tables := rfl
@[simp] theorem setUplink_image : (s.setUplink x).image = s.image := rfl
@[simp] theorem setUplink_lines : (s.setUplink x).lines = s.lines := rfl
@[simp] theorem setUplink_links : (s.setUplink x).links = s.links := rfl
@[simp] theorem setUplink_pool : (s.setUplink x).pool = s.pool := rfl
@[simp] theorem setUplink_uplink : (s.setUplink x).uplink = x := rfl
@[simp] theorem setUplink_share : (s.setUplink x).share = s.share := rfl
@[simp] theorem setUplink_power : (s.setUplink x).power = s.power := rfl
@[simp] theorem setUplink_test : (s.setUplink x).test = s.test := rfl
@[simp] theorem setUplink_results : (s.setUplink x).results = s.results := rfl
@[simp] theorem setUplink_mgmt : (s.setUplink x).mgmt = s.mgmt := rfl
@[simp] theorem setUplink_notes : (s.setUplink x).notes = s.notes := rfl
@[simp] theorem setUplink_out : (s.setUplink x).out = s.out := rfl
@[simp] theorem setUplink_pending : (s.setUplink x).pending = s.pending := rfl
@[simp] theorem setUplink_line (l : LineNo) : (s.setUplink x).line l = s.line l := rfl
@[simp] theorem setUplink_service (l : LineNo) : (s.setUplink x).service l = s.service l := rfl
@[simp] theorem setUplink_profile (p : ProfileNo) : (s.setUplink x).profile p = s.profile p := rfl
end

section
variable (x : ShareEngine)

@[simp] theorem setShare_stage : (s.setShare x).stage = s.stage := rfl
@[simp] theorem setShare_pins : (s.setShare x).pins = s.pins := rfl
@[simp] theorem setShare_time : (s.setShare x).time = s.time := rfl
@[simp] theorem setShare_tables : (s.setShare x).tables = s.tables := rfl
@[simp] theorem setShare_image : (s.setShare x).image = s.image := rfl
@[simp] theorem setShare_lines : (s.setShare x).lines = s.lines := rfl
@[simp] theorem setShare_links : (s.setShare x).links = s.links := rfl
@[simp] theorem setShare_pool : (s.setShare x).pool = s.pool := rfl
@[simp] theorem setShare_uplink : (s.setShare x).uplink = s.uplink := rfl
@[simp] theorem setShare_share : (s.setShare x).share = x := rfl
@[simp] theorem setShare_power : (s.setShare x).power = s.power := rfl
@[simp] theorem setShare_test : (s.setShare x).test = s.test := rfl
@[simp] theorem setShare_results : (s.setShare x).results = s.results := rfl
@[simp] theorem setShare_mgmt : (s.setShare x).mgmt = s.mgmt := rfl
@[simp] theorem setShare_notes : (s.setShare x).notes = s.notes := rfl
@[simp] theorem setShare_out : (s.setShare x).out = s.out := rfl
@[simp] theorem setShare_pending : (s.setShare x).pending = s.pending := rfl
@[simp] theorem setShare_line (l : LineNo) : (s.setShare x).line l = s.line l := rfl
@[simp] theorem setShare_service (l : LineNo) : (s.setShare x).service l = s.service l := rfl
@[simp] theorem setShare_profile (p : ProfileNo) : (s.setShare x).profile p = s.profile p := rfl
end

section
variable (x : PowerCtl)

@[simp] theorem setPower_stage : (s.setPower x).stage = s.stage := rfl
@[simp] theorem setPower_pins : (s.setPower x).pins = s.pins := rfl
@[simp] theorem setPower_time : (s.setPower x).time = s.time := rfl
@[simp] theorem setPower_tables : (s.setPower x).tables = s.tables := rfl
@[simp] theorem setPower_image : (s.setPower x).image = s.image := rfl
@[simp] theorem setPower_lines : (s.setPower x).lines = s.lines := rfl
@[simp] theorem setPower_links : (s.setPower x).links = s.links := rfl
@[simp] theorem setPower_pool : (s.setPower x).pool = s.pool := rfl
@[simp] theorem setPower_uplink : (s.setPower x).uplink = s.uplink := rfl
@[simp] theorem setPower_share : (s.setPower x).share = s.share := rfl
@[simp] theorem setPower_power : (s.setPower x).power = x := rfl
@[simp] theorem setPower_test : (s.setPower x).test = s.test := rfl
@[simp] theorem setPower_results : (s.setPower x).results = s.results := rfl
@[simp] theorem setPower_mgmt : (s.setPower x).mgmt = s.mgmt := rfl
@[simp] theorem setPower_notes : (s.setPower x).notes = s.notes := rfl
@[simp] theorem setPower_out : (s.setPower x).out = s.out := rfl
@[simp] theorem setPower_pending : (s.setPower x).pending = s.pending := rfl
@[simp] theorem setPower_line (l : LineNo) : (s.setPower x).line l = s.line l := rfl
@[simp] theorem setPower_service (l : LineNo) : (s.setPower x).service l = s.service l := rfl
@[simp] theorem setPower_profile (p : ProfileNo) : (s.setPower x).profile p = s.profile p := rfl
end

section
variable (x : TestCtl)

@[simp] theorem setTest_stage : (s.setTest x).stage = s.stage := rfl
@[simp] theorem setTest_pins : (s.setTest x).pins = s.pins := rfl
@[simp] theorem setTest_time : (s.setTest x).time = s.time := rfl
@[simp] theorem setTest_tables : (s.setTest x).tables = s.tables := rfl
@[simp] theorem setTest_image : (s.setTest x).image = s.image := rfl
@[simp] theorem setTest_lines : (s.setTest x).lines = s.lines := rfl
@[simp] theorem setTest_links : (s.setTest x).links = s.links := rfl
@[simp] theorem setTest_pool : (s.setTest x).pool = s.pool := rfl
@[simp] theorem setTest_uplink : (s.setTest x).uplink = s.uplink := rfl
@[simp] theorem setTest_share : (s.setTest x).share = s.share := rfl
@[simp] theorem setTest_power : (s.setTest x).power = s.power := rfl
@[simp] theorem setTest_test : (s.setTest x).test = x := rfl
@[simp] theorem setTest_results : (s.setTest x).results = s.results := rfl
@[simp] theorem setTest_mgmt : (s.setTest x).mgmt = s.mgmt := rfl
@[simp] theorem setTest_notes : (s.setTest x).notes = s.notes := rfl
@[simp] theorem setTest_out : (s.setTest x).out = s.out := rfl
@[simp] theorem setTest_pending : (s.setTest x).pending = s.pending := rfl
@[simp] theorem setTest_line (l : LineNo) : (s.setTest x).line l = s.line l := rfl
@[simp] theorem setTest_service (l : LineNo) : (s.setTest x).service l = s.service l := rfl
@[simp] theorem setTest_profile (p : ProfileNo) : (s.setTest x).profile p = s.profile p := rfl
end

section
variable (x : Vector ResultRec 48)

@[simp] theorem setResults_stage : (s.setResults x).stage = s.stage := rfl
@[simp] theorem setResults_pins : (s.setResults x).pins = s.pins := rfl
@[simp] theorem setResults_time : (s.setResults x).time = s.time := rfl
@[simp] theorem setResults_tables : (s.setResults x).tables = s.tables := rfl
@[simp] theorem setResults_image : (s.setResults x).image = s.image := rfl
@[simp] theorem setResults_lines : (s.setResults x).lines = s.lines := rfl
@[simp] theorem setResults_links : (s.setResults x).links = s.links := rfl
@[simp] theorem setResults_pool : (s.setResults x).pool = s.pool := rfl
@[simp] theorem setResults_uplink : (s.setResults x).uplink = s.uplink := rfl
@[simp] theorem setResults_share : (s.setResults x).share = s.share := rfl
@[simp] theorem setResults_power : (s.setResults x).power = s.power := rfl
@[simp] theorem setResults_test : (s.setResults x).test = s.test := rfl
@[simp] theorem setResults_results : (s.setResults x).results = x := rfl
@[simp] theorem setResults_mgmt : (s.setResults x).mgmt = s.mgmt := rfl
@[simp] theorem setResults_notes : (s.setResults x).notes = s.notes := rfl
@[simp] theorem setResults_out : (s.setResults x).out = s.out := rfl
@[simp] theorem setResults_pending : (s.setResults x).pending = s.pending := rfl
@[simp] theorem setResults_line (l : LineNo) : (s.setResults x).line l = s.line l := rfl
@[simp] theorem setResults_service (l : LineNo) : (s.setResults x).service l = s.service l := rfl
@[simp] theorem setResults_profile (p : ProfileNo) : (s.setResults x).profile p = s.profile p := rfl
end

section
variable (x : Mgmt)

@[simp] theorem setMgmt_stage : (s.setMgmt x).stage = s.stage := rfl
@[simp] theorem setMgmt_pins : (s.setMgmt x).pins = s.pins := rfl
@[simp] theorem setMgmt_time : (s.setMgmt x).time = s.time := rfl
@[simp] theorem setMgmt_tables : (s.setMgmt x).tables = s.tables := rfl
@[simp] theorem setMgmt_image : (s.setMgmt x).image = s.image := rfl
@[simp] theorem setMgmt_lines : (s.setMgmt x).lines = s.lines := rfl
@[simp] theorem setMgmt_links : (s.setMgmt x).links = s.links := rfl
@[simp] theorem setMgmt_pool : (s.setMgmt x).pool = s.pool := rfl
@[simp] theorem setMgmt_uplink : (s.setMgmt x).uplink = s.uplink := rfl
@[simp] theorem setMgmt_share : (s.setMgmt x).share = s.share := rfl
@[simp] theorem setMgmt_power : (s.setMgmt x).power = s.power := rfl
@[simp] theorem setMgmt_test : (s.setMgmt x).test = s.test := rfl
@[simp] theorem setMgmt_results : (s.setMgmt x).results = s.results := rfl
@[simp] theorem setMgmt_mgmt : (s.setMgmt x).mgmt = x := rfl
@[simp] theorem setMgmt_notes : (s.setMgmt x).notes = s.notes := rfl
@[simp] theorem setMgmt_out : (s.setMgmt x).out = s.out := rfl
@[simp] theorem setMgmt_pending : (s.setMgmt x).pending = s.pending := rfl
@[simp] theorem setMgmt_line (l : LineNo) : (s.setMgmt x).line l = s.line l := rfl
@[simp] theorem setMgmt_service (l : LineNo) : (s.setMgmt x).service l = s.service l := rfl
@[simp] theorem setMgmt_profile (p : ProfileNo) : (s.setMgmt x).profile p = s.profile p := rfl
end

section
variable (x : Notes)

@[simp] theorem setNotes_stage : (s.setNotes x).stage = s.stage := rfl
@[simp] theorem setNotes_pins : (s.setNotes x).pins = s.pins := rfl
@[simp] theorem setNotes_time : (s.setNotes x).time = s.time := rfl
@[simp] theorem setNotes_tables : (s.setNotes x).tables = s.tables := rfl
@[simp] theorem setNotes_image : (s.setNotes x).image = s.image := rfl
@[simp] theorem setNotes_lines : (s.setNotes x).lines = s.lines := rfl
@[simp] theorem setNotes_links : (s.setNotes x).links = s.links := rfl
@[simp] theorem setNotes_pool : (s.setNotes x).pool = s.pool := rfl
@[simp] theorem setNotes_uplink : (s.setNotes x).uplink = s.uplink := rfl
@[simp] theorem setNotes_share : (s.setNotes x).share = s.share := rfl
@[simp] theorem setNotes_power : (s.setNotes x).power = s.power := rfl
@[simp] theorem setNotes_test : (s.setNotes x).test = s.test := rfl
@[simp] theorem setNotes_results : (s.setNotes x).results = s.results := rfl
@[simp] theorem setNotes_mgmt : (s.setNotes x).mgmt = s.mgmt := rfl
@[simp] theorem setNotes_notes : (s.setNotes x).notes = x := rfl
@[simp] theorem setNotes_out : (s.setNotes x).out = s.out := rfl
@[simp] theorem setNotes_pending : (s.setNotes x).pending = s.pending := rfl
@[simp] theorem setNotes_line (l : LineNo) : (s.setNotes x).line l = s.line l := rfl
@[simp] theorem setNotes_service (l : LineNo) : (s.setNotes x).service l = s.service l := rfl
@[simp] theorem setNotes_profile (p : ProfileNo) : (s.setNotes x).profile p = s.profile p := rfl
end

section
variable (x : Pins)

@[simp] theorem setPins_stage : (s.setPins x).stage = s.stage := rfl
@[simp] theorem setPins_pins : (s.setPins x).pins = x := rfl
@[simp] theorem setPins_time : (s.setPins x).time = s.time := rfl
@[simp] theorem setPins_tables : (s.setPins x).tables = s.tables := rfl
@[simp] theorem setPins_image : (s.setPins x).image = s.image := rfl
@[simp] theorem setPins_lines : (s.setPins x).lines = s.lines := rfl
@[simp] theorem setPins_links : (s.setPins x).links = s.links := rfl
@[simp] theorem setPins_pool : (s.setPins x).pool = s.pool := rfl
@[simp] theorem setPins_uplink : (s.setPins x).uplink = s.uplink := rfl
@[simp] theorem setPins_share : (s.setPins x).share = s.share := rfl
@[simp] theorem setPins_power : (s.setPins x).power = s.power := rfl
@[simp] theorem setPins_test : (s.setPins x).test = s.test := rfl
@[simp] theorem setPins_results : (s.setPins x).results = s.results := rfl
@[simp] theorem setPins_mgmt : (s.setPins x).mgmt = s.mgmt := rfl
@[simp] theorem setPins_notes : (s.setPins x).notes = s.notes := rfl
@[simp] theorem setPins_out : (s.setPins x).out = s.out := rfl
@[simp] theorem setPins_pending : (s.setPins x).pending = s.pending := rfl
@[simp] theorem setPins_line (l : LineNo) : (s.setPins x).line l = s.line l := rfl
@[simp] theorem setPins_service (l : LineNo) : (s.setPins x).service l = s.service l := rfl
@[simp] theorem setPins_profile (p : ProfileNo) : (s.setPins x).profile p = s.profile p := rfl
end

section
variable (x : Stage)

@[simp] theorem setStage_stage : (s.setStage x).stage = x := rfl
@[simp] theorem setStage_pins : (s.setStage x).pins = s.pins := rfl
@[simp] theorem setStage_time : (s.setStage x).time = s.time := rfl
@[simp] theorem setStage_tables : (s.setStage x).tables = s.tables := rfl
@[simp] theorem setStage_image : (s.setStage x).image = s.image := rfl
@[simp] theorem setStage_lines : (s.setStage x).lines = s.lines := rfl
@[simp] theorem setStage_links : (s.setStage x).links = s.links := rfl
@[simp] theorem setStage_pool : (s.setStage x).pool = s.pool := rfl
@[simp] theorem setStage_uplink : (s.setStage x).uplink = s.uplink := rfl
@[simp] theorem setStage_share : (s.setStage x).share = s.share := rfl
@[simp] theorem setStage_power : (s.setStage x).power = s.power := rfl
@[simp] theorem setStage_test : (s.setStage x).test = s.test := rfl
@[simp] theorem setStage_results : (s.setStage x).results = s.results := rfl
@[simp] theorem setStage_mgmt : (s.setStage x).mgmt = s.mgmt := rfl
@[simp] theorem setStage_notes : (s.setStage x).notes = s.notes := rfl
@[simp] theorem setStage_out : (s.setStage x).out = s.out := rfl
@[simp] theorem setStage_pending : (s.setStage x).pending = s.pending := rfl
@[simp] theorem setStage_line (l : LineNo) : (s.setStage x).line l = s.line l := rfl
@[simp] theorem setStage_service (l : LineNo) : (s.setStage x).service l = s.service l := rfl
@[simp] theorem setStage_profile (p : ProfileNo) : (s.setStage x).profile p = s.profile p := rfl
end

/-! ## A message sent -/

section
variable (m : OutMsg)

@[simp] theorem emit_stage : (s.emit m).stage = s.stage := rfl
@[simp] theorem emit_pins : (s.emit m).pins = s.pins := rfl
@[simp] theorem emit_time : (s.emit m).time = s.time := rfl
@[simp] theorem emit_tables : (s.emit m).tables = s.tables := rfl
@[simp] theorem emit_image : (s.emit m).image = s.image := rfl
@[simp] theorem emit_lines : (s.emit m).lines = s.lines := rfl
@[simp] theorem emit_links : (s.emit m).links = s.links := rfl
@[simp] theorem emit_pool : (s.emit m).pool = s.pool := rfl
@[simp] theorem emit_uplink : (s.emit m).uplink = s.uplink := rfl
@[simp] theorem emit_share : (s.emit m).share = s.share := rfl
@[simp] theorem emit_power : (s.emit m).power = s.power := rfl
@[simp] theorem emit_test : (s.emit m).test = s.test := rfl
@[simp] theorem emit_results : (s.emit m).results = s.results := rfl
@[simp] theorem emit_mgmt : (s.emit m).mgmt = s.mgmt := rfl
@[simp] theorem emit_notes : (s.emit m).notes = s.notes := rfl
@[simp] theorem emit_out : (s.emit m).out = s.out ++ [m] := rfl
@[simp] theorem emit_pending : (s.emit m).pending = s.pending := rfl
@[simp] theorem emit_line (l : LineNo) : (s.emit m).line l = s.line l := rfl
@[simp] theorem emit_service (l : LineNo) : (s.emit m).service l = s.service l := rfl
@[simp] theorem emit_profile (p : ProfileNo) : (s.emit m).profile p = s.profile p := rfl
end

/-! ## A line changed -/

section
variable (l : LineNo) (f : Line → Line)

@[simp] theorem modLine_stage : (s.modLine l f).stage = s.stage := rfl
@[simp] theorem modLine_pins : (s.modLine l f).pins = s.pins := rfl
@[simp] theorem modLine_time : (s.modLine l f).time = s.time := rfl
@[simp] theorem modLine_tables : (s.modLine l f).tables = s.tables := rfl
@[simp] theorem modLine_image : (s.modLine l f).image = s.image := rfl
theorem modLine_lines : (s.modLine l f).lines = s.lines.set l (f (s.line l)) := rfl
@[simp] theorem modLine_links : (s.modLine l f).links = s.links := rfl
@[simp] theorem modLine_pool : (s.modLine l f).pool = s.pool := rfl
@[simp] theorem modLine_uplink : (s.modLine l f).uplink = s.uplink := rfl
@[simp] theorem modLine_share : (s.modLine l f).share = s.share := rfl
@[simp] theorem modLine_power : (s.modLine l f).power = s.power := rfl
@[simp] theorem modLine_test : (s.modLine l f).test = s.test := rfl
@[simp] theorem modLine_results : (s.modLine l f).results = s.results := rfl
@[simp] theorem modLine_mgmt : (s.modLine l f).mgmt = s.mgmt := rfl
@[simp] theorem modLine_notes : (s.modLine l f).notes = s.notes := rfl
@[simp] theorem modLine_out : (s.modLine l f).out = s.out := rfl
@[simp] theorem modLine_pending : (s.modLine l f).pending = s.pending := rfl
@[simp] theorem modLine_service (k : LineNo) : (s.modLine l f).service k = s.service k := rfl
@[simp] theorem modLine_profile (p : ProfileNo) : (s.modLine l f).profile p = s.profile p := rfl

/-- The line changed reads back changed, every other line as before. -/
theorem modLine_line (k : LineNo) : (s.modLine l f).line k = if k = l then f (s.line l) else s.line k := by
  unfold State.modLine State.setLines State.line
  by_cases h : k = l
  · subst h; simp
  · have : l.val ≠ k.val := fun e => h (Fin.ext e.symm)
    simp [h, Vector.getElem_set, this]

@[simp] theorem modLine_line_self : (s.modLine l f).line l = f (s.line l) := by simp [modLine_line]

theorem modLine_line_other {k : LineNo} (h : k ≠ l) : (s.modLine l f).line k = s.line k := by simp [modLine_line, h]
end

/-- A state is determined by its components. -/
theorem State.ext_of {s t : State}
    (h : s.stage = t.stage ∧ s.pins = t.pins ∧ s.time = t.time ∧ s.tables = t.tables ∧ s.image = t.image ∧ s.lines = t.lines ∧
      s.links = t.links ∧ s.pool = t.pool ∧ s.uplink = t.uplink ∧ s.share = t.share ∧ s.power = t.power ∧ s.test = t.test ∧
      s.results = t.results ∧ s.mgmt = t.mgmt ∧ s.notes = t.notes ∧ s.out = t.out ∧ s.pending = t.pending) : s = t := by
  cases s; cases t; simp_all

/-- Two vectors of lines are equal when every line is. -/
theorem lines_ext {s t : State} (h : ∀ l, s.line l = t.line l) : s.lines = t.lines := by
  apply Vector.ext
  intro i hi
  exact h ⟨i, hi⟩

end Sys2Proof.Machine
end

