-- ==== Sys2Proof/Laws/Frames.lean ====
section
/-! SUPPORT. The frame of each shared operation of Flags, Ops, Share, TestQueue, Lines, Exchange and FramePath: the components
of the state it leaves as they are, in one lemma for each operation. -/

namespace Sys2Proof.Machine

@[simp] theorem raiseLine_frame (k : LineEvent) (l : LineNo) (s : State) : (raiseLine k l s).stage = s.stage ∧
    (raiseLine k l s).pins = s.pins ∧ (raiseLine k l s).time = s.time ∧ (raiseLine k l s).tables = s.tables ∧
    (raiseLine k l s).image = s.image ∧ (raiseLine k l s).lines = s.lines ∧ (raiseLine k l s).links = s.links ∧
    (raiseLine k l s).pool = s.pool ∧ (raiseLine k l s).uplink = s.uplink ∧ (raiseLine k l s).share = s.share ∧
    (raiseLine k l s).power = s.power ∧ (raiseLine k l s).test = s.test ∧ (raiseLine k l s).results = s.results ∧
    (raiseLine k l s).notes = s.notes ∧ (raiseLine k l s).out = s.out ∧ (raiseLine k l s).pending = s.pending :=
    by simp only [raiseLine]; (repeat' split) <;> simp [*]
@[simp] theorem raisePart_frame (k : PartEvent) (s : State) : (raisePart k s).stage = s.stage ∧ (raisePart k s).pins = s.pins ∧
    (raisePart k s).time = s.time ∧ (raisePart k s).tables = s.tables ∧ (raisePart k s).image = s.image ∧
    (raisePart k s).lines = s.lines ∧ (raisePart k s).links = s.links ∧ (raisePart k s).pool = s.pool ∧
    (raisePart k s).uplink = s.uplink ∧ (raisePart k s).share = s.share ∧ (raisePart k s).power = s.power ∧
    (raisePart k s).test = s.test ∧ (raisePart k s).results = s.results ∧ (raisePart k s).notes = s.notes ∧
    (raisePart k s).out = s.out ∧ (raisePart k s).pending = s.pending := by simp only [raisePart]; (repeat' split) <;> simp [*]
@[simp] theorem raiseRestart_frame (k : RestartKind) (s : State) : (raiseRestart k s).stage = s.stage ∧
    (raiseRestart k s).pins = s.pins ∧ (raiseRestart k s).time = s.time ∧ (raiseRestart k s).tables = s.tables ∧
    (raiseRestart k s).image = s.image ∧ (raiseRestart k s).lines = s.lines ∧ (raiseRestart k s).links = s.links ∧
    (raiseRestart k s).pool = s.pool ∧ (raiseRestart k s).uplink = s.uplink ∧ (raiseRestart k s).share = s.share ∧
    (raiseRestart k s).power = s.power ∧ (raiseRestart k s).test = s.test ∧ (raiseRestart k s).results = s.results ∧
    (raiseRestart k s).notes = s.notes ∧ (raiseRestart k s).out = s.out ∧ (raiseRestart k s).pending = s.pending :=
    by simp only [raiseRestart]; (repeat' split) <;> simp [*]
@[simp] theorem raiseWake_frame  (s : State) : (raiseWake s).stage = s.stage ∧ (raiseWake s).pins = s.pins ∧
    (raiseWake s).time = s.time ∧ (raiseWake s).tables = s.tables ∧ (raiseWake s).image = s.image ∧
    (raiseWake s).lines = s.lines ∧ (raiseWake s).links = s.links ∧ (raiseWake s).pool = s.pool ∧
    (raiseWake s).uplink = s.uplink ∧ (raiseWake s).share = s.share ∧ (raiseWake s).power = s.power ∧
    (raiseWake s).test = s.test ∧ (raiseWake s).results = s.results ∧ (raiseWake s).notes = s.notes ∧
    (raiseWake s).out = s.out ∧ (raiseWake s).pending = s.pending := by simp only [raiseWake]; (repeat' split) <;> simp [*]
@[simp] theorem noteScan_frame  (s : State) : (noteScan s).stage = s.stage ∧ (noteScan s).pins = s.pins ∧
    (noteScan s).time = s.time ∧ (noteScan s).tables = s.tables ∧ (noteScan s).image = s.image ∧ (noteScan s).lines = s.lines ∧
    (noteScan s).links = s.links ∧ (noteScan s).pool = s.pool ∧ (noteScan s).uplink = s.uplink ∧ (noteScan s).share = s.share ∧
    (noteScan s).power = s.power ∧ (noteScan s).test = s.test ∧ (noteScan s).results = s.results ∧ (noteScan s).mgmt = s.mgmt ∧
    (noteScan s).out = s.out ∧ (noteScan s).pending = s.pending := by simp [noteScan]
@[simp] theorem noteArbiter_frame  (s : State) : (noteArbiter s).stage = s.stage ∧ (noteArbiter s).pins = s.pins ∧
    (noteArbiter s).time = s.time ∧ (noteArbiter s).tables = s.tables ∧ (noteArbiter s).image = s.image ∧
    (noteArbiter s).lines = s.lines ∧ (noteArbiter s).links = s.links ∧ (noteArbiter s).pool = s.pool ∧
    (noteArbiter s).uplink = s.uplink ∧ (noteArbiter s).share = s.share ∧ (noteArbiter s).power = s.power ∧
    (noteArbiter s).test = s.test ∧ (noteArbiter s).results = s.results ∧ (noteArbiter s).mgmt = s.mgmt ∧
    (noteArbiter s).out = s.out ∧ (noteArbiter s).pending = s.pending := by simp [noteArbiter]
@[simp] theorem setMode_frame (l : LineNo) (m : LineMode) (s : State) : (setMode l m s).stage = s.stage ∧
    (setMode l m s).pins = s.pins ∧ (setMode l m s).time = s.time ∧ (setMode l m s).tables = s.tables ∧
    (setMode l m s).image = s.image ∧ (setMode l m s).links = s.links ∧ (setMode l m s).pool = s.pool ∧
    (setMode l m s).uplink = s.uplink ∧ (setMode l m s).share = s.share ∧ (setMode l m s).power = s.power ∧
    (setMode l m s).test = s.test ∧ (setMode l m s).results = s.results ∧ (setMode l m s).mgmt = s.mgmt ∧
    (setMode l m s).notes = s.notes ∧ (setMode l m s).pending = s.pending :=
    by simp only [setMode]; (repeat' split) <;> simp [*]
@[simp] theorem sendMode_frame (l : LineNo) (m : LineMode) (s : State) : (sendMode l m s).stage = s.stage ∧
    (sendMode l m s).pins = s.pins ∧ (sendMode l m s).time = s.time ∧ (sendMode l m s).tables = s.tables ∧
    (sendMode l m s).image = s.image ∧ (sendMode l m s).links = s.links ∧ (sendMode l m s).pool = s.pool ∧
    (sendMode l m s).uplink = s.uplink ∧ (sendMode l m s).share = s.share ∧ (sendMode l m s).power = s.power ∧
    (sendMode l m s).test = s.test ∧ (sendMode l m s).results = s.results ∧ (sendMode l m s).mgmt = s.mgmt ∧
    (sendMode l m s).notes = s.notes ∧ (sendMode l m s).pending = s.pending := by simp [sendMode]
@[simp] theorem setCost_frame (l : LineNo) (c : Nat) (s : State) : (setCost l c s).stage = s.stage ∧
    (setCost l c s).pins = s.pins ∧ (setCost l c s).time = s.time ∧ (setCost l c s).tables = s.tables ∧
    (setCost l c s).image = s.image ∧ (setCost l c s).links = s.links ∧ (setCost l c s).pool = s.pool ∧
    (setCost l c s).uplink = s.uplink ∧ (setCost l c s).share = s.share ∧ (setCost l c s).power = s.power ∧
    (setCost l c s).test = s.test ∧ (setCost l c s).results = s.results ∧ (setCost l c s).mgmt = s.mgmt ∧
    (setCost l c s).out = s.out ∧ (setCost l c s).pending = s.pending := by simp only [setCost]; (repeat' split) <;> simp [*]
@[simp] theorem releaseCommit_frame  (s : State) : (releaseCommit s).stage = s.stage ∧ (releaseCommit s).pins = s.pins ∧
    (releaseCommit s).time = s.time ∧ (releaseCommit s).tables = s.tables ∧ (releaseCommit s).image = s.image ∧
    (releaseCommit s).lines = s.lines ∧ (releaseCommit s).links = s.links ∧ (releaseCommit s).pool = s.pool ∧
    (releaseCommit s).uplink = s.uplink ∧ (releaseCommit s).share = s.share ∧ (releaseCommit s).test = s.test ∧
    (releaseCommit s).results = s.results ∧ (releaseCommit s).mgmt = s.mgmt ∧ (releaseCommit s).out = s.out ∧
    (releaseCommit s).pending = s.pending := by simp only [releaseCommit]; (repeat' split) <;> simp [*]
@[simp] theorem removeWait_frame (l : LineNo) (s : State) : (removeWait l s).stage = s.stage ∧ (removeWait l s).pins = s.pins ∧
    (removeWait l s).time = s.time ∧ (removeWait l s).tables = s.tables ∧ (removeWait l s).image = s.image ∧
    (removeWait l s).lines = s.lines ∧ (removeWait l s).links = s.links ∧ (removeWait l s).pool = s.pool ∧
    (removeWait l s).uplink = s.uplink ∧ (removeWait l s).share = s.share ∧ (removeWait l s).test = s.test ∧
    (removeWait l s).results = s.results ∧ (removeWait l s).mgmt = s.mgmt ∧ (removeWait l s).notes = s.notes ∧
    (removeWait l s).out = s.out ∧ (removeWait l s).pending = s.pending := by simp [removeWait]
@[simp] theorem addWait_frame (l : LineNo) (k : WaitKind) (n : Option Nat) (s : State) : (addWait l k n s).stage = s.stage ∧
    (addWait l k n s).pins = s.pins ∧ (addWait l k n s).time = s.time ∧ (addWait l k n s).tables = s.tables ∧
    (addWait l k n s).image = s.image ∧ (addWait l k n s).lines = s.lines ∧ (addWait l k n s).links = s.links ∧
    (addWait l k n s).pool = s.pool ∧ (addWait l k n s).uplink = s.uplink ∧ (addWait l k n s).share = s.share ∧
    (addWait l k n s).test = s.test ∧ (addWait l k n s).results = s.results ∧ (addWait l k n s).mgmt = s.mgmt ∧
    (addWait l k n s).notes = s.notes ∧ (addWait l k n s).out = s.out ∧ (addWait l k n s).pending = s.pending :=
    by simp only [addWait]; (repeat' split) <;> simp [*]
@[simp] theorem addWaitScan_frame (l : LineNo) (k : WaitKind) (s : State) : (addWaitScan l k s).stage = s.stage ∧
    (addWaitScan l k s).pins = s.pins ∧ (addWaitScan l k s).time = s.time ∧ (addWaitScan l k s).tables = s.tables ∧
    (addWaitScan l k s).image = s.image ∧ (addWaitScan l k s).lines = s.lines ∧ (addWaitScan l k s).links = s.links ∧
    (addWaitScan l k s).pool = s.pool ∧ (addWaitScan l k s).uplink = s.uplink ∧ (addWaitScan l k s).share = s.share ∧
    (addWaitScan l k s).test = s.test ∧ (addWaitScan l k s).results = s.results ∧ (addWaitScan l k s).mgmt = s.mgmt ∧
    (addWaitScan l k s).out = s.out ∧ (addWaitScan l k s).pending = s.pending := by simp [addWaitScan]
@[simp] theorem reclassWait_frame (l : LineNo) (c : Nat) (s : State) : (reclassWait l c s).stage = s.stage ∧
    (reclassWait l c s).pins = s.pins ∧ (reclassWait l c s).time = s.time ∧ (reclassWait l c s).tables = s.tables ∧
    (reclassWait l c s).image = s.image ∧ (reclassWait l c s).lines = s.lines ∧ (reclassWait l c s).links = s.links ∧
    (reclassWait l c s).pool = s.pool ∧ (reclassWait l c s).uplink = s.uplink ∧ (reclassWait l c s).share = s.share ∧
    (reclassWait l c s).test = s.test ∧ (reclassWait l c s).results = s.results ∧ (reclassWait l c s).mgmt = s.mgmt ∧
    (reclassWait l c s).notes = s.notes ∧ (reclassWait l c s).out = s.out ∧ (reclassWait l c s).pending = s.pending :=
    by simp only [reclassWait]; (repeat' split) <;> simp [*]
@[simp] theorem takeCells_frame (n : Nat) (s : State) : (takeCells n s).stage = s.stage ∧ (takeCells n s).pins = s.pins ∧
    (takeCells n s).time = s.time ∧ (takeCells n s).tables = s.tables ∧ (takeCells n s).image = s.image ∧
    (takeCells n s).lines = s.lines ∧ (takeCells n s).links = s.links ∧ (takeCells n s).uplink = s.uplink ∧
    (takeCells n s).share = s.share ∧ (takeCells n s).power = s.power ∧ (takeCells n s).test = s.test ∧
    (takeCells n s).results = s.results ∧ (takeCells n s).mgmt = s.mgmt ∧ (takeCells n s).notes = s.notes ∧
    (takeCells n s).out = s.out ∧ (takeCells n s).pending = s.pending := by simp [takeCells]
@[simp] theorem returnCells_frame (n : Nat) (s : State) : (returnCells n s).stage = s.stage ∧ (returnCells n s).pins = s.pins ∧
    (returnCells n s).time = s.time ∧ (returnCells n s).tables = s.tables ∧ (returnCells n s).image = s.image ∧
    (returnCells n s).lines = s.lines ∧ (returnCells n s).links = s.links ∧ (returnCells n s).uplink = s.uplink ∧
    (returnCells n s).share = s.share ∧ (returnCells n s).power = s.power ∧ (returnCells n s).test = s.test ∧
    (returnCells n s).results = s.results ∧ (returnCells n s).mgmt = s.mgmt ∧ (returnCells n s).notes = s.notes ∧
    (returnCells n s).out = s.out ∧ (returnCells n s).pending = s.pending :=
    by simp only [returnCells]; (repeat' split) <;> simp [*]
@[simp] theorem shortage_frame  (s : State) : (shortage s).stage = s.stage ∧ (shortage s).pins = s.pins ∧
    (shortage s).time = s.time ∧ (shortage s).tables = s.tables ∧ (shortage s).image = s.image ∧ (shortage s).lines = s.lines ∧
    (shortage s).links = s.links ∧ (shortage s).uplink = s.uplink ∧ (shortage s).share = s.share ∧
    (shortage s).power = s.power ∧ (shortage s).test = s.test ∧ (shortage s).results = s.results ∧
    (shortage s).notes = s.notes ∧ (shortage s).out = s.out ∧ (shortage s).pending = s.pending :=
    by simp only [shortage]; (repeat' split) <;> simp [*]
@[simp] theorem dropUp_frame (l : LineNo) (n : Nat) (s : State) : (dropUp l n s).stage = s.stage ∧
    (dropUp l n s).pins = s.pins ∧ (dropUp l n s).time = s.time ∧ (dropUp l n s).tables = s.tables ∧
    (dropUp l n s).image = s.image ∧ (dropUp l n s).links = s.links ∧ (dropUp l n s).pool = s.pool ∧
    (dropUp l n s).uplink = s.uplink ∧ (dropUp l n s).share = s.share ∧ (dropUp l n s).power = s.power ∧
    (dropUp l n s).test = s.test ∧ (dropUp l n s).results = s.results ∧ (dropUp l n s).mgmt = s.mgmt ∧
    (dropUp l n s).notes = s.notes ∧ (dropUp l n s).out = s.out ∧ (dropUp l n s).pending = s.pending := by simp [dropUp]
@[simp] theorem dropDown_frame (l : LineNo) (n : Nat) (s : State) : (dropDown l n s).stage = s.stage ∧
    (dropDown l n s).pins = s.pins ∧ (dropDown l n s).time = s.time ∧ (dropDown l n s).tables = s.tables ∧
    (dropDown l n s).image = s.image ∧ (dropDown l n s).links = s.links ∧ (dropDown l n s).pool = s.pool ∧
    (dropDown l n s).uplink = s.uplink ∧ (dropDown l n s).share = s.share ∧ (dropDown l n s).power = s.power ∧
    (dropDown l n s).test = s.test ∧ (dropDown l n s).results = s.results ∧ (dropDown l n s).mgmt = s.mgmt ∧
    (dropDown l n s).notes = s.notes ∧ (dropDown l n s).out = s.out ∧ (dropDown l n s).pending = s.pending := by simp [dropDown]
@[simp] theorem flush_frame (l : LineNo) (s : State) : (flush l s).stage = s.stage ∧ (flush l s).pins = s.pins ∧
    (flush l s).time = s.time ∧ (flush l s).tables = s.tables ∧ (flush l s).image = s.image ∧ (flush l s).links = s.links ∧
    (flush l s).share = s.share ∧ (flush l s).power = s.power ∧ (flush l s).test = s.test ∧ (flush l s).results = s.results ∧
    (flush l s).mgmt = s.mgmt ∧ (flush l s).notes = s.notes ∧ (flush l s).pending = s.pending :=
    by simp only [flush]; (repeat' split) <;> simp [*]
@[simp] theorem startReshare_frame  (s : State) : (startReshare s).stage = s.stage ∧ (startReshare s).pins = s.pins ∧
    (startReshare s).time = s.time ∧ (startReshare s).tables = s.tables ∧ (startReshare s).image = s.image ∧
    (startReshare s).lines = s.lines ∧ (startReshare s).links = s.links ∧ (startReshare s).pool = s.pool ∧
    (startReshare s).uplink = s.uplink ∧ (startReshare s).power = s.power ∧ (startReshare s).test = s.test ∧
    (startReshare s).results = s.results ∧ (startReshare s).mgmt = s.mgmt ∧ (startReshare s).notes = s.notes ∧
    (startReshare s).out = s.out ∧ (startReshare s).pending = s.pending := by simp [startReshare]
@[simp] theorem triggerReshare_frame  (s : State) : (triggerReshare s).stage = s.stage ∧ (triggerReshare s).pins = s.pins ∧
    (triggerReshare s).time = s.time ∧ (triggerReshare s).tables = s.tables ∧ (triggerReshare s).image = s.image ∧
    (triggerReshare s).lines = s.lines ∧ (triggerReshare s).links = s.links ∧ (triggerReshare s).pool = s.pool ∧
    (triggerReshare s).uplink = s.uplink ∧ (triggerReshare s).power = s.power ∧ (triggerReshare s).test = s.test ∧
    (triggerReshare s).results = s.results ∧ (triggerReshare s).mgmt = s.mgmt ∧ (triggerReshare s).notes = s.notes ∧
    (triggerReshare s).out = s.out ∧ (triggerReshare s).pending = s.pending :=
    by simp only [triggerReshare]; (repeat' split) <;> simp [*]
@[simp] theorem shareDepart_frame (l : LineNo) (s : State) : (shareDepart l s).stage = s.stage ∧
    (shareDepart l s).pins = s.pins ∧ (shareDepart l s).time = s.time ∧ (shareDepart l s).tables = s.tables ∧
    (shareDepart l s).image = s.image ∧ (shareDepart l s).links = s.links ∧ (shareDepart l s).pool = s.pool ∧
    (shareDepart l s).uplink = s.uplink ∧ (shareDepart l s).power = s.power ∧ (shareDepart l s).test = s.test ∧
    (shareDepart l s).results = s.results ∧ (shareDepart l s).mgmt = s.mgmt ∧ (shareDepart l s).notes = s.notes ∧
    (shareDepart l s).out = s.out ∧ (shareDepart l s).pending = s.pending := by simp [shareDepart]
@[simp] theorem installShare_frame (f : Flight) (s : State) : (installShare f s).stage = s.stage ∧
    (installShare f s).pins = s.pins ∧ (installShare f s).time = s.time ∧ (installShare f s).tables = s.tables ∧
    (installShare f s).image = s.image ∧ (installShare f s).links = s.links ∧ (installShare f s).pool = s.pool ∧
    (installShare f s).uplink = s.uplink ∧ (installShare f s).power = s.power ∧ (installShare f s).test = s.test ∧
    (installShare f s).results = s.results ∧ (installShare f s).notes = s.notes ∧ (installShare f s).out = s.out ∧
    (installShare f s).pending = s.pending := by simp only [installShare]; (repeat' split) <;> simp [*]
@[simp] theorem reevaluate_frame  (s : State) : (reevaluate s).stage = s.stage ∧ (reevaluate s).pins = s.pins ∧
    (reevaluate s).time = s.time ∧ (reevaluate s).tables = s.tables ∧ (reevaluate s).image = s.image ∧
    (reevaluate s).lines = s.lines ∧ (reevaluate s).links = s.links ∧ (reevaluate s).pool = s.pool ∧
    (reevaluate s).power = s.power ∧ (reevaluate s).test = s.test ∧ (reevaluate s).results = s.results ∧
    (reevaluate s).notes = s.notes ∧ (reevaluate s).out = s.out ∧ (reevaluate s).pending = s.pending :=
    by simp only [reevaluate]; (repeat' split) <;> simp [*]
@[simp] theorem joinQueue_frame (e : TestReq) (r : List TestReq) (s : State) : (joinQueue e r s).stage = s.stage ∧
    (joinQueue e r s).pins = s.pins ∧ (joinQueue e r s).time = s.time ∧ (joinQueue e r s).tables = s.tables ∧
    (joinQueue e r s).image = s.image ∧ (joinQueue e r s).lines = s.lines ∧ (joinQueue e r s).links = s.links ∧
    (joinQueue e r s).pool = s.pool ∧ (joinQueue e r s).uplink = s.uplink ∧ (joinQueue e r s).share = s.share ∧
    (joinQueue e r s).power = s.power ∧ (joinQueue e r s).results = s.results ∧ (joinQueue e r s).mgmt = s.mgmt ∧
    (joinQueue e r s).notes = s.notes ∧ (joinQueue e r s).out = s.out ∧ (joinQueue e r s).pending = s.pending :=
    by simp only [joinQueue]; (repeat' split) <;> simp [*]
@[simp] theorem writeResult_frame (l : LineNo) (r : ResultRec) (s : State) : (writeResult l r s).stage = s.stage ∧
    (writeResult l r s).pins = s.pins ∧ (writeResult l r s).time = s.time ∧ (writeResult l r s).tables = s.tables ∧
    (writeResult l r s).image = s.image ∧ (writeResult l r s).lines = s.lines ∧ (writeResult l r s).links = s.links ∧
    (writeResult l r s).pool = s.pool ∧ (writeResult l r s).uplink = s.uplink ∧ (writeResult l r s).share = s.share ∧
    (writeResult l r s).power = s.power ∧ (writeResult l r s).test = s.test ∧ (writeResult l r s).mgmt = s.mgmt ∧
    (writeResult l r s).notes = s.notes ∧ (writeResult l r s).out = s.out ∧ (writeResult l r s).pending = s.pending :=
    by simp [writeResult]
@[simp] theorem removeTest_frame (l : LineNo) (v : Verdict) (e : PartEvent) (s : State) : (removeTest l v e s).stage = s.stage ∧
    (removeTest l v e s).pins = s.pins ∧ (removeTest l v e s).time = s.time ∧ (removeTest l v e s).tables = s.tables ∧
    (removeTest l v e s).image = s.image ∧ (removeTest l v e s).lines = s.lines ∧ (removeTest l v e s).links = s.links ∧
    (removeTest l v e s).pool = s.pool ∧ (removeTest l v e s).uplink = s.uplink ∧ (removeTest l v e s).share = s.share ∧
    (removeTest l v e s).power = s.power ∧ (removeTest l v e s).notes = s.notes ∧ (removeTest l v e s).out = s.out ∧
    (removeTest l v e s).pending = s.pending := by simp only [removeTest]; (repeat' split) <;> simp [*]
@[simp] theorem cancelQueued_frame (l : LineNo) (s : State) : (cancelQueued l s).stage = s.stage ∧
    (cancelQueued l s).pins = s.pins ∧ (cancelQueued l s).time = s.time ∧ (cancelQueued l s).tables = s.tables ∧
    (cancelQueued l s).image = s.image ∧ (cancelQueued l s).lines = s.lines ∧ (cancelQueued l s).links = s.links ∧
    (cancelQueued l s).pool = s.pool ∧ (cancelQueued l s).uplink = s.uplink ∧ (cancelQueued l s).share = s.share ∧
    (cancelQueued l s).power = s.power ∧ (cancelQueued l s).out = s.out ∧ (cancelQueued l s).pending = s.pending :=
    by simp only [cancelQueued]; (repeat' split) <;> simp [*]
@[simp] theorem judgeTest_frame (r : TestReq) (s : State) : ((judgeTest r s).1).stage = s.stage ∧
    ((judgeTest r s).1).pins = s.pins ∧ ((judgeTest r s).1).time = s.time ∧ ((judgeTest r s).1).tables = s.tables ∧
    ((judgeTest r s).1).image = s.image ∧ ((judgeTest r s).1).lines = s.lines ∧ ((judgeTest r s).1).links = s.links ∧
    ((judgeTest r s).1).pool = s.pool ∧ ((judgeTest r s).1).uplink = s.uplink ∧ ((judgeTest r s).1).share = s.share ∧
    ((judgeTest r s).1).power = s.power ∧ ((judgeTest r s).1).results = s.results ∧ ((judgeTest r s).1).mgmt = s.mgmt ∧
    ((judgeTest r s).1).out = s.out ∧ ((judgeTest r s).1).pending = s.pending :=
    by simp only [judgeTest]; (repeat' split) <;> simp [*]
@[simp] theorem requestOwn_frame (l : LineNo) (o : OriginSet) (st : StepSet) (s : State) : (requestOwn l o st s).stage = s.stage ∧
    (requestOwn l o st s).pins = s.pins ∧ (requestOwn l o st s).time = s.time ∧ (requestOwn l o st s).tables = s.tables ∧
    (requestOwn l o st s).image = s.image ∧ (requestOwn l o st s).lines = s.lines ∧ (requestOwn l o st s).links = s.links ∧
    (requestOwn l o st s).pool = s.pool ∧ (requestOwn l o st s).uplink = s.uplink ∧ (requestOwn l o st s).share = s.share ∧
    (requestOwn l o st s).power = s.power ∧ (requestOwn l o st s).results = s.results ∧ (requestOwn l o st s).out = s.out ∧
    (requestOwn l o st s).pending = s.pending := by simp only [requestOwn]; (repeat' split) <;> simp [*]
@[simp] theorem concludeTest_frame (t : CurrentTest) (s : State) : (concludeTest t s).stage = s.stage ∧
    (concludeTest t s).pins = s.pins ∧ (concludeTest t s).time = s.time ∧ (concludeTest t s).tables = s.tables ∧
    (concludeTest t s).image = s.image ∧ (concludeTest t s).lines = s.lines ∧ (concludeTest t s).links = s.links ∧
    (concludeTest t s).pool = s.pool ∧ (concludeTest t s).uplink = s.uplink ∧ (concludeTest t s).share = s.share ∧
    (concludeTest t s).power = s.power ∧ (concludeTest t s).test = s.test ∧ (concludeTest t s).notes = s.notes ∧
    (concludeTest t s).out = s.out ∧ (concludeTest t s).pending = s.pending :=
    by simp only [concludeTest]; (repeat' split) <;> simp [*]
@[simp] theorem enterListening_frame (l : LineNo) (s : State) : (enterListening l s).stage = s.stage ∧
    (enterListening l s).pins = s.pins ∧ (enterListening l s).time = s.time ∧ (enterListening l s).tables = s.tables ∧
    (enterListening l s).image = s.image ∧ (enterListening l s).links = s.links ∧ (enterListening l s).pool = s.pool ∧
    (enterListening l s).uplink = s.uplink ∧ (enterListening l s).share = s.share ∧ (enterListening l s).power = s.power ∧
    (enterListening l s).test = s.test ∧ (enterListening l s).results = s.results ∧ (enterListening l s).mgmt = s.mgmt ∧
    (enterListening l s).pending = s.pending := by simp [enterListening]
@[simp] theorem enterTraining_frame (l : LineNo) (s : State) : (enterTraining l s).stage = s.stage ∧
    (enterTraining l s).pins = s.pins ∧ (enterTraining l s).time = s.time ∧ (enterTraining l s).tables = s.tables ∧
    (enterTraining l s).image = s.image ∧ (enterTraining l s).links = s.links ∧ (enterTraining l s).pool = s.pool ∧
    (enterTraining l s).uplink = s.uplink ∧ (enterTraining l s).share = s.share ∧ (enterTraining l s).power = s.power ∧
    (enterTraining l s).test = s.test ∧ (enterTraining l s).results = s.results ∧ (enterTraining l s).mgmt = s.mgmt ∧
    (enterTraining l s).pending = s.pending := by simp [enterTraining]
@[simp] theorem requestTrain_frame (l : LineNo) (s : State) : (requestTrain l s).stage = s.stage ∧
    (requestTrain l s).pins = s.pins ∧ (requestTrain l s).time = s.time ∧ (requestTrain l s).tables = s.tables ∧
    (requestTrain l s).image = s.image ∧ (requestTrain l s).links = s.links ∧ (requestTrain l s).pool = s.pool ∧
    (requestTrain l s).uplink = s.uplink ∧ (requestTrain l s).share = s.share ∧ (requestTrain l s).test = s.test ∧
    (requestTrain l s).results = s.results ∧ (requestTrain l s).mgmt = s.mgmt ∧ (requestTrain l s).pending = s.pending :=
    by simp only [requestTrain]; (repeat' split) <;> simp [*]
@[simp] theorem enterParked_frame (l : LineNo) (s : State) : (enterParked l s).stage = s.stage ∧
    (enterParked l s).pins = s.pins ∧ (enterParked l s).time = s.time ∧ (enterParked l s).tables = s.tables ∧
    (enterParked l s).image = s.image ∧ (enterParked l s).links = s.links ∧ (enterParked l s).pool = s.pool ∧
    (enterParked l s).uplink = s.uplink ∧ (enterParked l s).share = s.share ∧ (enterParked l s).power = s.power ∧
    (enterParked l s).test = s.test ∧ (enterParked l s).results = s.results ∧ (enterParked l s).mgmt = s.mgmt ∧
    (enterParked l s).notes = s.notes ∧ (enterParked l s).pending = s.pending := by simp [enterParked]
@[simp] theorem returnToListening_frame (l : LineNo) (s : State) : (returnToListening l s).stage = s.stage ∧
    (returnToListening l s).pins = s.pins ∧ (returnToListening l s).time = s.time ∧ (returnToListening l s).tables = s.tables ∧
    (returnToListening l s).image = s.image ∧ (returnToListening l s).links = s.links ∧ (returnToListening l s).pool = s.pool ∧
    (returnToListening l s).uplink = s.uplink ∧ (returnToListening l s).share = s.share ∧
    (returnToListening l s).test = s.test ∧ (returnToListening l s).results = s.results ∧
    (returnToListening l s).mgmt = s.mgmt ∧ (returnToListening l s).pending = s.pending :=
    by simp only [returnToListening]; (repeat' split) <;> simp [*]
@[simp] theorem retrainRequest_frame (l : LineNo) (s : State) : (retrainRequest l s).stage = s.stage ∧
    (retrainRequest l s).pins = s.pins ∧ (retrainRequest l s).time = s.time ∧ (retrainRequest l s).tables = s.tables ∧
    (retrainRequest l s).image = s.image ∧ (retrainRequest l s).links = s.links ∧ (retrainRequest l s).pool = s.pool ∧
    (retrainRequest l s).uplink = s.uplink ∧ (retrainRequest l s).share = s.share ∧ (retrainRequest l s).test = s.test ∧
    (retrainRequest l s).results = s.results ∧ (retrainRequest l s).mgmt = s.mgmt ∧ (retrainRequest l s).pending = s.pending :=
    by simp only [retrainRequest]; (repeat' split) <;> simp [*]
@[simp] theorem depart_frame (l : LineNo) (s : State) : (depart l s).stage = s.stage ∧ (depart l s).pins = s.pins ∧
    (depart l s).time = s.time ∧ (depart l s).tables = s.tables ∧ (depart l s).image = s.image ∧ (depart l s).links = s.links ∧
    (depart l s).test = s.test ∧ (depart l s).results = s.results ∧ (depart l s).mgmt = s.mgmt ∧ (depart l s).notes = s.notes ∧
    (depart l s).pending = s.pending := by simp [depart]
@[simp] theorem dropExchange_frame (l : LineNo) (s : State) : (dropExchange l s).stage = s.stage ∧
    (dropExchange l s).pins = s.pins ∧ (dropExchange l s).time = s.time ∧ (dropExchange l s).tables = s.tables ∧
    (dropExchange l s).image = s.image ∧ (dropExchange l s).links = s.links ∧ (dropExchange l s).pool = s.pool ∧
    (dropExchange l s).uplink = s.uplink ∧ (dropExchange l s).share = s.share ∧ (dropExchange l s).power = s.power ∧
    (dropExchange l s).test = s.test ∧ (dropExchange l s).results = s.results ∧ (dropExchange l s).mgmt = s.mgmt ∧
    (dropExchange l s).notes = s.notes ∧ (dropExchange l s).out = s.out ∧ (dropExchange l s).pending = s.pending :=
    by simp [dropExchange]
@[simp] theorem countRetrain_frame (l : LineNo) (s : State) : (countRetrain l s).stage = s.stage ∧
    (countRetrain l s).pins = s.pins ∧ (countRetrain l s).time = s.time ∧ (countRetrain l s).tables = s.tables ∧
    (countRetrain l s).image = s.image ∧ (countRetrain l s).links = s.links ∧ (countRetrain l s).pool = s.pool ∧
    (countRetrain l s).uplink = s.uplink ∧ (countRetrain l s).share = s.share ∧ (countRetrain l s).power = s.power ∧
    (countRetrain l s).results = s.results ∧ (countRetrain l s).out = s.out ∧ (countRetrain l s).pending = s.pending :=
    by simp only [countRetrain]; (repeat' split) <;> simp [*]
@[simp] theorem losEpisode_frame (l : LineNo) (s : State) : (losEpisode l s).stage = s.stage ∧ (losEpisode l s).pins = s.pins ∧
    (losEpisode l s).time = s.time ∧ (losEpisode l s).tables = s.tables ∧ (losEpisode l s).image = s.image ∧
    (losEpisode l s).links = s.links ∧ (losEpisode l s).results = s.results ∧ (losEpisode l s).pending = s.pending :=
    by simp [losEpisode]
@[simp] theorem failExchange_frame (l : LineNo) (s : State) : (failExchange l s).stage = s.stage ∧
    (failExchange l s).pins = s.pins ∧ (failExchange l s).time = s.time ∧ (failExchange l s).tables = s.tables ∧
    (failExchange l s).image = s.image ∧ (failExchange l s).links = s.links ∧ (failExchange l s).pool = s.pool ∧
    (failExchange l s).uplink = s.uplink ∧ (failExchange l s).share = s.share ∧ (failExchange l s).test = s.test ∧
    (failExchange l s).results = s.results ∧ (failExchange l s).pending = s.pending := by simp [failExchange]
@[simp] theorem lineLos_frame (l : LineNo) (s : State) : (lineLos l s).stage = s.stage ∧ (lineLos l s).pins = s.pins ∧
    (lineLos l s).time = s.time ∧ (lineLos l s).tables = s.tables ∧ (lineLos l s).image = s.image ∧
    (lineLos l s).links = s.links ∧ (lineLos l s).results = s.results ∧ (lineLos l s).pending = s.pending :=
    by simp only [lineLos]; (repeat' split) <;> simp [*]
@[simp] theorem retrainInService_frame (l : LineNo) (s : State) : (retrainInService l s).stage = s.stage ∧
    (retrainInService l s).pins = s.pins ∧ (retrainInService l s).time = s.time ∧ (retrainInService l s).tables = s.tables ∧
    (retrainInService l s).image = s.image ∧ (retrainInService l s).links = s.links ∧
    (retrainInService l s).results = s.results ∧ (retrainInService l s).pending = s.pending := by simp [retrainInService]
@[simp] theorem retrainTraining_frame (l : LineNo) (s : State) : (retrainTraining l s).stage = s.stage ∧
    (retrainTraining l s).pins = s.pins ∧ (retrainTraining l s).time = s.time ∧ (retrainTraining l s).tables = s.tables ∧
    (retrainTraining l s).image = s.image ∧ (retrainTraining l s).links = s.links ∧ (retrainTraining l s).pool = s.pool ∧
    (retrainTraining l s).uplink = s.uplink ∧ (retrainTraining l s).share = s.share ∧ (retrainTraining l s).test = s.test ∧
    (retrainTraining l s).results = s.results ∧ (retrainTraining l s).mgmt = s.mgmt ∧
    (retrainTraining l s).pending = s.pending := by simp [retrainTraining]
@[simp] theorem enterIdleLow_frame (l : LineNo) (s : State) : (enterIdleLow l s).stage = s.stage ∧
    (enterIdleLow l s).pins = s.pins ∧ (enterIdleLow l s).time = s.time ∧ (enterIdleLow l s).tables = s.tables ∧
    (enterIdleLow l s).image = s.image ∧ (enterIdleLow l s).links = s.links ∧ (enterIdleLow l s).pool = s.pool ∧
    (enterIdleLow l s).uplink = s.uplink ∧ (enterIdleLow l s).power = s.power ∧ (enterIdleLow l s).test = s.test ∧
    (enterIdleLow l s).results = s.results ∧ (enterIdleLow l s).mgmt = s.mgmt ∧ (enterIdleLow l s).pending = s.pending :=
    by simp only [enterIdleLow]; (repeat' split) <;> simp [*]
@[simp] theorem promote_frame (l : LineNo) (s : State) : (promote l s).stage = s.stage ∧ (promote l s).pins = s.pins ∧
    (promote l s).time = s.time ∧ (promote l s).tables = s.tables ∧ (promote l s).image = s.image ∧
    (promote l s).links = s.links ∧ (promote l s).pool = s.pool ∧ (promote l s).uplink = s.uplink ∧
    (promote l s).power = s.power ∧ (promote l s).test = s.test ∧ (promote l s).results = s.results ∧
    (promote l s).mgmt = s.mgmt ∧ (promote l s).pending = s.pending := by simp only [promote]; (repeat' split) <;> simp [*]
@[simp] theorem promoteIfDeep_frame (l : LineNo) (s : State) : (promoteIfDeep l s).stage = s.stage ∧
    (promoteIfDeep l s).pins = s.pins ∧ (promoteIfDeep l s).time = s.time ∧ (promoteIfDeep l s).tables = s.tables ∧
    (promoteIfDeep l s).image = s.image ∧ (promoteIfDeep l s).links = s.links ∧ (promoteIfDeep l s).pool = s.pool ∧
    (promoteIfDeep l s).uplink = s.uplink ∧ (promoteIfDeep l s).test = s.test ∧ (promoteIfDeep l s).results = s.results ∧
    (promoteIfDeep l s).mgmt = s.mgmt ∧ (promoteIfDeep l s).pending = s.pending :=
    by simp only [promoteIfDeep]; (repeat' split) <;> simp [*]
@[simp] theorem enterService_frame (l : LineNo) (p : ProfileNo) (k : Service) (s : State) : (enterService l p k s).stage = s.stage ∧
    (enterService l p k s).pins = s.pins ∧ (enterService l p k s).time = s.time ∧ (enterService l p k s).tables = s.tables ∧
    (enterService l p k s).image = s.image ∧ (enterService l p k s).links = s.links ∧ (enterService l p k s).pool = s.pool ∧
    (enterService l p k s).uplink = s.uplink ∧ (enterService l p k s).test = s.test ∧
    (enterService l p k s).results = s.results ∧ (enterService l p k s).notes = s.notes ∧
    (enterService l p k s).pending = s.pending := by simp only [enterService]; (repeat' split) <;> simp [*]
@[simp] theorem withdraw_frame (l : LineNo) (s : State) : (withdraw l s).stage = s.stage ∧ (withdraw l s).pins = s.pins ∧
    (withdraw l s).time = s.time ∧ (withdraw l s).tables = s.tables ∧ (withdraw l s).image = s.image ∧
    (withdraw l s).links = s.links ∧ (withdraw l s).test = s.test ∧ (withdraw l s).results = s.results ∧
    (withdraw l s).mgmt = s.mgmt ∧ (withdraw l s).notes = s.notes ∧ (withdraw l s).pending = s.pending :=
    by simp only [withdraw]; (repeat' split) <;> simp [*]
@[simp] theorem shedLine_frame (l : LineNo) (s : State) : (shedLine l s).stage = s.stage ∧ (shedLine l s).pins = s.pins ∧
    (shedLine l s).time = s.time ∧ (shedLine l s).tables = s.tables ∧ (shedLine l s).image = s.image ∧
    (shedLine l s).links = s.links ∧ (shedLine l s).test = s.test ∧ (shedLine l s).results = s.results ∧
    (shedLine l s).pending = s.pending := by simp only [shedLine]; (repeat' split) <;> simp [*]
@[simp] theorem demote_frame (l : LineNo) (s : State) : (demote l s).stage = s.stage ∧ (demote l s).pins = s.pins ∧
    (demote l s).time = s.time ∧ (demote l s).tables = s.tables ∧ (demote l s).image = s.image ∧ (demote l s).links = s.links ∧
    (demote l s).pool = s.pool ∧ (demote l s).uplink = s.uplink ∧ (demote l s).power = s.power ∧ (demote l s).test = s.test ∧
    (demote l s).results = s.results ∧ (demote l s).mgmt = s.mgmt ∧ (demote l s).pending = s.pending :=
    by simp only [demote]; (repeat' split) <;> simp [*]
@[simp] theorem takeLine_frame (l : LineNo) (s : State) : (takeLine l s).stage = s.stage ∧ (takeLine l s).pins = s.pins ∧
    (takeLine l s).time = s.time ∧ (takeLine l s).tables = s.tables ∧ (takeLine l s).image = s.image ∧
    (takeLine l s).links = s.links ∧ (takeLine l s).test = s.test ∧ (takeLine l s).results = s.results ∧
    (takeLine l s).mgmt = s.mgmt ∧ (takeLine l s).notes = s.notes ∧ (takeLine l s).pending = s.pending := by simp [takeLine]
@[simp] theorem returnParked_frame (l : LineNo) (s : State) : (returnParked l s).stage = s.stage ∧
    (returnParked l s).pins = s.pins ∧ (returnParked l s).time = s.time ∧ (returnParked l s).tables = s.tables ∧
    (returnParked l s).image = s.image ∧ (returnParked l s).links = s.links ∧ (returnParked l s).pool = s.pool ∧
    (returnParked l s).uplink = s.uplink ∧ (returnParked l s).share = s.share ∧ (returnParked l s).test = s.test ∧
    (returnParked l s).results = s.results ∧ (returnParked l s).mgmt = s.mgmt ∧ (returnParked l s).pending = s.pending :=
    by simp [returnParked]
@[simp] theorem returnBlocked_frame (l : LineNo) (s : State) : (returnBlocked l s).stage = s.stage ∧
    (returnBlocked l s).pins = s.pins ∧ (returnBlocked l s).time = s.time ∧ (returnBlocked l s).tables = s.tables ∧
    (returnBlocked l s).image = s.image ∧ (returnBlocked l s).links = s.links ∧ (returnBlocked l s).pool = s.pool ∧
    (returnBlocked l s).uplink = s.uplink ∧ (returnBlocked l s).share = s.share ∧ (returnBlocked l s).power = s.power ∧
    (returnBlocked l s).test = s.test ∧ (returnBlocked l s).results = s.results ∧ (returnBlocked l s).mgmt = s.mgmt ∧
    (returnBlocked l s).notes = s.notes ∧ (returnBlocked l s).pending = s.pending := by simp [returnBlocked]
@[simp] theorem enterDown_frame (l : LineNo) (s : State) : (enterDown l s).stage = s.stage ∧ (enterDown l s).pins = s.pins ∧
    (enterDown l s).time = s.time ∧ (enterDown l s).tables = s.tables ∧ (enterDown l s).image = s.image ∧
    (enterDown l s).links = s.links ∧ (enterDown l s).pool = s.pool ∧ (enterDown l s).uplink = s.uplink ∧
    (enterDown l s).share = s.share ∧ (enterDown l s).power = s.power ∧ (enterDown l s).test = s.test ∧
    (enterDown l s).results = s.results ∧ (enterDown l s).mgmt = s.mgmt ∧ (enterDown l s).notes = s.notes ∧
    (enterDown l s).pending = s.pending := by simp [enterDown]
@[simp] theorem beginStep_frame (l : LineNo) (ph : Phase) (pk : PageKind) (pg : Nat → RawPage) (x : Exchange) (s : State) : (beginStep l ph pk pg x s).stage = s.stage ∧
    (beginStep l ph pk pg x s).pins = s.pins ∧ (beginStep l ph pk pg x s).time = s.time ∧
    (beginStep l ph pk pg x s).tables = s.tables ∧ (beginStep l ph pk pg x s).image = s.image ∧
    (beginStep l ph pk pg x s).links = s.links ∧ (beginStep l ph pk pg x s).pool = s.pool ∧
    (beginStep l ph pk pg x s).uplink = s.uplink ∧ (beginStep l ph pk pg x s).share = s.share ∧
    (beginStep l ph pk pg x s).power = s.power ∧ (beginStep l ph pk pg x s).test = s.test ∧
    (beginStep l ph pk pg x s).results = s.results ∧ (beginStep l ph pk pg x s).mgmt = s.mgmt ∧
    (beginStep l ph pk pg x s).notes = s.notes ∧ (beginStep l ph pk pg x s).pending = s.pending := by simp [beginStep]
@[simp] theorem beginExtension_frame (l : LineNo) (pk : PageKind) (x : Exchange) (s : State) : (beginExtension l pk x s).stage = s.stage ∧
    (beginExtension l pk x s).pins = s.pins ∧ (beginExtension l pk x s).time = s.time ∧
    (beginExtension l pk x s).tables = s.tables ∧ (beginExtension l pk x s).image = s.image ∧
    (beginExtension l pk x s).links = s.links ∧ (beginExtension l pk x s).pool = s.pool ∧
    (beginExtension l pk x s).uplink = s.uplink ∧ (beginExtension l pk x s).share = s.share ∧
    (beginExtension l pk x s).power = s.power ∧ (beginExtension l pk x s).test = s.test ∧
    (beginExtension l pk x s).results = s.results ∧ (beginExtension l pk x s).mgmt = s.mgmt ∧
    (beginExtension l pk x s).notes = s.notes ∧ (beginExtension l pk x s).pending = s.pending := by simp [beginExtension]
@[simp] theorem noPower_frame (l : LineNo) (n : Nat) (s : State) : (noPower l n s).stage = s.stage ∧
    (noPower l n s).pins = s.pins ∧ (noPower l n s).time = s.time ∧ (noPower l n s).tables = s.tables ∧
    (noPower l n s).image = s.image ∧ (noPower l n s).links = s.links ∧ (noPower l n s).pool = s.pool ∧
    (noPower l n s).uplink = s.uplink ∧ (noPower l n s).share = s.share ∧ (noPower l n s).test = s.test ∧
    (noPower l n s).results = s.results ∧ (noPower l n s).mgmt = s.mgmt ∧ (noPower l n s).pending = s.pending :=
    by simp only [noPower]; (repeat' split) <;> simp [*]
@[simp] theorem resolve_frame (l : LineNo) (pk : PageKind) (x : Exchange) (s : State) : (resolve l pk x s).stage = s.stage ∧
    (resolve l pk x s).pins = s.pins ∧ (resolve l pk x s).time = s.time ∧ (resolve l pk x s).tables = s.tables ∧
    (resolve l pk x s).image = s.image ∧ (resolve l pk x s).links = s.links ∧ (resolve l pk x s).pool = s.pool ∧
    (resolve l pk x s).uplink = s.uplink ∧ (resolve l pk x s).share = s.share ∧ (resolve l pk x s).test = s.test ∧
    (resolve l pk x s).results = s.results ∧ (resolve l pk x s).pending = s.pending :=
    by simp only [resolve]; (repeat' split) <;> simp [*]
@[simp] theorem takeBase_frame (l : LineNo) (p : RawPage) (x : Exchange) (s : State) : (takeBase l p x s).stage = s.stage ∧
    (takeBase l p x s).pins = s.pins ∧ (takeBase l p x s).time = s.time ∧ (takeBase l p x s).tables = s.tables ∧
    (takeBase l p x s).image = s.image ∧ (takeBase l p x s).links = s.links ∧ (takeBase l p x s).pool = s.pool ∧
    (takeBase l p x s).uplink = s.uplink ∧ (takeBase l p x s).share = s.share ∧ (takeBase l p x s).test = s.test ∧
    (takeBase l p x s).results = s.results ∧ (takeBase l p x s).pending = s.pending :=
    by simp only [takeBase]; (repeat' split) <;> simp [*]
@[simp] theorem applyExtension_frame (l : LineNo) (p : RawPage) (s : State) : (applyExtension l p s).stage = s.stage ∧
    (applyExtension l p s).pins = s.pins ∧ (applyExtension l p s).time = s.time ∧ (applyExtension l p s).tables = s.tables ∧
    (applyExtension l p s).image = s.image ∧ (applyExtension l p s).links = s.links ∧ (applyExtension l p s).pool = s.pool ∧
    (applyExtension l p s).uplink = s.uplink ∧ (applyExtension l p s).share = s.share ∧ (applyExtension l p s).power = s.power ∧
    (applyExtension l p s).test = s.test ∧ (applyExtension l p s).results = s.results ∧ (applyExtension l p s).mgmt = s.mgmt ∧
    (applyExtension l p s).notes = s.notes ∧ (applyExtension l p s).out = s.out ∧ (applyExtension l p s).pending = s.pending :=
    by simp only [applyExtension]; (repeat' split) <;> simp [*]
@[simp] theorem takeExtension_frame (l : LineNo) (p : RawPage) (x : Exchange) (s : State) : (takeExtension l p x s).stage = s.stage ∧
    (takeExtension l p x s).pins = s.pins ∧ (takeExtension l p x s).time = s.time ∧ (takeExtension l p x s).tables = s.tables ∧
    (takeExtension l p x s).image = s.image ∧ (takeExtension l p x s).links = s.links ∧ (takeExtension l p x s).pool = s.pool ∧
    (takeExtension l p x s).uplink = s.uplink ∧ (takeExtension l p x s).share = s.share ∧
    (takeExtension l p x s).test = s.test ∧ (takeExtension l p x s).results = s.results ∧
    (takeExtension l p x s).pending = s.pending := by simp only [takeExtension]; (repeat' split) <;> simp [*]
@[simp] theorem takeSelect_frame (l : LineNo) (p : RawPage) (x : Exchange) (s : State) : (takeSelect l p x s).stage = s.stage ∧
    (takeSelect l p x s).pins = s.pins ∧ (takeSelect l p x s).time = s.time ∧ (takeSelect l p x s).tables = s.tables ∧
    (takeSelect l p x s).image = s.image ∧ (takeSelect l p x s).links = s.links ∧ (takeSelect l p x s).pool = s.pool ∧
    (takeSelect l p x s).uplink = s.uplink ∧ (takeSelect l p x s).test = s.test ∧ (takeSelect l p x s).results = s.results ∧
    (takeSelect l p x s).pending = s.pending := by simp only [takeSelect]; (repeat' split) <;> simp [*]
@[simp] theorem judgePage_frame (l : LineNo) (p : RawPage) (x : Exchange) (s : State) : (judgePage l p x s).stage = s.stage ∧
    (judgePage l p x s).pins = s.pins ∧ (judgePage l p x s).time = s.time ∧ (judgePage l p x s).tables = s.tables ∧
    (judgePage l p x s).image = s.image ∧ (judgePage l p x s).links = s.links ∧ (judgePage l p x s).pool = s.pool ∧
    (judgePage l p x s).uplink = s.uplink ∧ (judgePage l p x s).test = s.test ∧ (judgePage l p x s).results = s.results ∧
    (judgePage l p x s).pending = s.pending := by simp only [judgePage]; (repeat' split) <;> simp [*]
@[simp] theorem deliverPage_frame (l : LineNo) (p : RawPage) (s : State) : (deliverPage l p s).stage = s.stage ∧
    (deliverPage l p s).pins = s.pins ∧ (deliverPage l p s).time = s.time ∧ (deliverPage l p s).tables = s.tables ∧
    (deliverPage l p s).image = s.image ∧ (deliverPage l p s).links = s.links ∧ (deliverPage l p s).pool = s.pool ∧
    (deliverPage l p s).uplink = s.uplink ∧ (deliverPage l p s).test = s.test ∧ (deliverPage l p s).results = s.results ∧
    (deliverPage l p s).pending = s.pending := by simp only [deliverPage]; (repeat' split) <;> simp [*]
@[simp] theorem expirePage_frame (l : LineNo) (s : State) : (expirePage l s).stage = s.stage ∧ (expirePage l s).pins = s.pins ∧
    (expirePage l s).time = s.time ∧ (expirePage l s).tables = s.tables ∧ (expirePage l s).image = s.image ∧
    (expirePage l s).links = s.links ∧ (expirePage l s).pool = s.pool ∧ (expirePage l s).uplink = s.uplink ∧
    (expirePage l s).share = s.share ∧ (expirePage l s).test = s.test ∧ (expirePage l s).results = s.results ∧
    (expirePage l s).pending = s.pending := by simp only [expirePage]; (repeat' split) <;> simp [*]
@[simp] theorem acceptUp_frame (l : LineNo) (f : Bytes) (s : State) : (acceptUp l f s).stage = s.stage ∧
    (acceptUp l f s).pins = s.pins ∧ (acceptUp l f s).time = s.time ∧ (acceptUp l f s).tables = s.tables ∧
    (acceptUp l f s).image = s.image ∧ (acceptUp l f s).links = s.links ∧ (acceptUp l f s).uplink = s.uplink ∧
    (acceptUp l f s).test = s.test ∧ (acceptUp l f s).results = s.results ∧ (acceptUp l f s).mgmt = s.mgmt ∧
    (acceptUp l f s).pending = s.pending := by simp [acceptUp]
@[simp] theorem judgeUp_frame (l : LineNo) (f : Bytes) (e : Bool) (s : State) : (judgeUp l f e s).stage = s.stage ∧
    (judgeUp l f e s).pins = s.pins ∧ (judgeUp l f e s).time = s.time ∧ (judgeUp l f e s).tables = s.tables ∧
    (judgeUp l f e s).image = s.image ∧ (judgeUp l f e s).links = s.links ∧ (judgeUp l f e s).uplink = s.uplink ∧
    (judgeUp l f e s).test = s.test ∧ (judgeUp l f e s).results = s.results ∧ (judgeUp l f e s).pending = s.pending :=
    by simp only [judgeUp]; (repeat' split) <;> simp [*]
@[simp] theorem debit_frame (l : LineNo) (s : State) : (debit l s).stage = s.stage ∧ (debit l s).pins = s.pins ∧
    (debit l s).time = s.time ∧ (debit l s).tables = s.tables ∧ (debit l s).image = s.image ∧ (debit l s).links = s.links ∧
    (debit l s).pool = s.pool ∧ (debit l s).uplink = s.uplink ∧ (debit l s).share = s.share ∧ (debit l s).power = s.power ∧
    (debit l s).test = s.test ∧ (debit l s).results = s.results ∧ (debit l s).mgmt = s.mgmt ∧ (debit l s).notes = s.notes ∧
    (debit l s).out = s.out ∧ (debit l s).pending = s.pending := by simp [debit]
@[simp] theorem chooseFrame_frame  (s : State) : (chooseFrame s).stage = s.stage ∧ (chooseFrame s).pins = s.pins ∧
    (chooseFrame s).time = s.time ∧ (chooseFrame s).tables = s.tables ∧ (chooseFrame s).image = s.image ∧
    (chooseFrame s).links = s.links ∧ (chooseFrame s).pool = s.pool ∧ (chooseFrame s).share = s.share ∧
    (chooseFrame s).power = s.power ∧ (chooseFrame s).test = s.test ∧ (chooseFrame s).results = s.results ∧
    (chooseFrame s).mgmt = s.mgmt ∧ (chooseFrame s).notes = s.notes ∧ (chooseFrame s).out = s.out ∧
    (chooseFrame s).pending = s.pending := by simp only [chooseFrame]; (repeat' split) <;> simp [*]
@[simp] theorem popUp_frame (l : LineNo) (s : State) : (popUp l s).stage = s.stage ∧ (popUp l s).pins = s.pins ∧
    (popUp l s).time = s.time ∧ (popUp l s).tables = s.tables ∧ (popUp l s).image = s.image ∧ (popUp l s).links = s.links ∧
    (popUp l s).uplink = s.uplink ∧ (popUp l s).share = s.share ∧ (popUp l s).power = s.power ∧ (popUp l s).test = s.test ∧
    (popUp l s).results = s.results ∧ (popUp l s).mgmt = s.mgmt ∧ (popUp l s).notes = s.notes ∧ (popUp l s).out = s.out ∧
    (popUp l s).pending = s.pending := by simp only [popUp]; (repeat' split) <;> simp [*]

theorem forLines_stage {ls : List LineNo} {f : LineNo → State → State} {s : State} (h : ∀ l s, (f l s).stage = s.stage) : (forLines ls f s).stage = s.stage := by
  unfold forLines; induction ls generalizing s with
  | nil => rfl
  | cons a as ih => simp [ih, h]
theorem forLines_pins {ls : List LineNo} {f : LineNo → State → State} {s : State} (h : ∀ l s, (f l s).pins = s.pins) : (forLines ls f s).pins = s.pins := by
  unfold forLines; induction ls generalizing s with
  | nil => rfl
  | cons a as ih => simp [ih, h]
theorem forLines_time {ls : List LineNo} {f : LineNo → State → State} {s : State} (h : ∀ l s, (f l s).time = s.time) : (forLines ls f s).time = s.time := by
  unfold forLines; induction ls generalizing s with
  | nil => rfl
  | cons a as ih => simp [ih, h]
theorem forLines_tables {ls : List LineNo} {f : LineNo → State → State} {s : State} (h : ∀ l s, (f l s).tables = s.tables) : (forLines ls f s).tables = s.tables := by
  unfold forLines; induction ls generalizing s with
  | nil => rfl
  | cons a as ih => simp [ih, h]
theorem forLines_image {ls : List LineNo} {f : LineNo → State → State} {s : State} (h : ∀ l s, (f l s).image = s.image) : (forLines ls f s).image = s.image := by
  unfold forLines; induction ls generalizing s with
  | nil => rfl
  | cons a as ih => simp [ih, h]
theorem forLines_lines {ls : List LineNo} {f : LineNo → State → State} {s : State} (h : ∀ l s, (f l s).lines = s.lines) : (forLines ls f s).lines = s.lines := by
  unfold forLines; induction ls generalizing s with
  | nil => rfl
  | cons a as ih => simp [ih, h]
theorem forLines_links {ls : List LineNo} {f : LineNo → State → State} {s : State} (h : ∀ l s, (f l s).links = s.links) : (forLines ls f s).links = s.links := by
  unfold forLines; induction ls generalizing s with
  | nil => rfl
  | cons a as ih => simp [ih, h]
theorem forLines_pool {ls : List LineNo} {f : LineNo → State → State} {s : State} (h : ∀ l s, (f l s).pool = s.pool) : (forLines ls f s).pool = s.pool := by
  unfold forLines; induction ls generalizing s with
  | nil => rfl
  | cons a as ih => simp [ih, h]
theorem forLines_uplink {ls : List LineNo} {f : LineNo → State → State} {s : State} (h : ∀ l s, (f l s).uplink = s.uplink) : (forLines ls f s).uplink = s.uplink := by
  unfold forLines; induction ls generalizing s with
  | nil => rfl
  | cons a as ih => simp [ih, h]
theorem forLines_share {ls : List LineNo} {f : LineNo → State → State} {s : State} (h : ∀ l s, (f l s).share = s.share) : (forLines ls f s).share = s.share := by
  unfold forLines; induction ls generalizing s with
  | nil => rfl
  | cons a as ih => simp [ih, h]
theorem forLines_power {ls : List LineNo} {f : LineNo → State → State} {s : State} (h : ∀ l s, (f l s).power = s.power) : (forLines ls f s).power = s.power := by
  unfold forLines; induction ls generalizing s with
  | nil => rfl
  | cons a as ih => simp [ih, h]
theorem forLines_test {ls : List LineNo} {f : LineNo → State → State} {s : State} (h : ∀ l s, (f l s).test = s.test) : (forLines ls f s).test = s.test := by
  unfold forLines; induction ls generalizing s with
  | nil => rfl
  | cons a as ih => simp [ih, h]
theorem forLines_results {ls : List LineNo} {f : LineNo → State → State} {s : State} (h : ∀ l s, (f l s).results = s.results) : (forLines ls f s).results = s.results := by
  unfold forLines; induction ls generalizing s with
  | nil => rfl
  | cons a as ih => simp [ih, h]
theorem forLines_mgmt {ls : List LineNo} {f : LineNo → State → State} {s : State} (h : ∀ l s, (f l s).mgmt = s.mgmt) : (forLines ls f s).mgmt = s.mgmt := by
  unfold forLines; induction ls generalizing s with
  | nil => rfl
  | cons a as ih => simp [ih, h]
theorem forLines_notes {ls : List LineNo} {f : LineNo → State → State} {s : State} (h : ∀ l s, (f l s).notes = s.notes) : (forLines ls f s).notes = s.notes := by
  unfold forLines; induction ls generalizing s with
  | nil => rfl
  | cons a as ih => simp [ih, h]
theorem forLines_out {ls : List LineNo} {f : LineNo → State → State} {s : State} (h : ∀ l s, (f l s).out = s.out) : (forLines ls f s).out = s.out := by
  unfold forLines; induction ls generalizing s with
  | nil => rfl
  | cons a as ih => simp [ih, h]
theorem forLines_pending {ls : List LineNo} {f : LineNo → State → State} {s : State} (h : ∀ l s, (f l s).pending = s.pending) : (forLines ls f s).pending = s.pending := by
  unfold forLines; induction ls generalizing s with
  | nil => rfl
  | cons a as ih => simp [ih, h]
@[simp] theorem deliver_frame (l : LineNo) (n : Nat) (s : State) : (deliver l n s).stage = s.stage ∧
    (deliver l n s).pins = s.pins ∧ (deliver l n s).time = s.time ∧ (deliver l n s).tables = s.tables ∧
    (deliver l n s).image = s.image ∧ (deliver l n s).links = s.links ∧ (deliver l n s).uplink = s.uplink ∧
    (deliver l n s).share = s.share ∧ (deliver l n s).power = s.power ∧ (deliver l n s).test = s.test ∧
    (deliver l n s).results = s.results ∧ (deliver l n s).mgmt = s.mgmt ∧ (deliver l n s).notes = s.notes ∧
    (deliver l n s).pending = s.pending := by
  induction n generalizing s with
  | zero => simp [deliver]
  | succ n ih => simp only [deliver]; split <;> simp [*]
@[simp] theorem deliverReady_frame (l : LineNo) (s : State) : (deliverReady l s).stage = s.stage ∧
    (deliverReady l s).pins = s.pins ∧ (deliverReady l s).time = s.time ∧ (deliverReady l s).tables = s.tables ∧
    (deliverReady l s).image = s.image ∧ (deliverReady l s).links = s.links ∧ (deliverReady l s).uplink = s.uplink ∧
    (deliverReady l s).share = s.share ∧ (deliverReady l s).power = s.power ∧ (deliverReady l s).test = s.test ∧
    (deliverReady l s).results = s.results ∧ (deliverReady l s).mgmt = s.mgmt ∧ (deliverReady l s).notes = s.notes ∧
    (deliverReady l s).pending = s.pending := by simp [deliverReady]

end Sys2Proof.Machine
end

