-- ==== Sys2Proof/Laws/Frames2.lean ====
section
/-! SUPPORT. The frame of each operation of the scan, the test bus, the supply, restart, requests, tables and commands: the
components of the state it leaves as they are, in one lemma for each operation. -/

namespace Sys2Proof.Machine

@[simp] theorem acceptDown_frame (l : LineNo) (f : Bytes) (s : State) : (acceptDown l f s).stage = s.stage ∧
    (acceptDown l f s).pins = s.pins ∧ (acceptDown l f s).time = s.time ∧ (acceptDown l f s).tables = s.tables ∧
    (acceptDown l f s).image = s.image ∧ (acceptDown l f s).links = s.links ∧ (acceptDown l f s).uplink = s.uplink ∧
    (acceptDown l f s).test = s.test ∧ (acceptDown l f s).results = s.results ∧ (acceptDown l f s).mgmt = s.mgmt ∧
    (acceptDown l f s).pending = s.pending := by simp [acceptDown]
@[simp] theorem judgeDown_frame (f : Bytes) (s : State) : (judgeDown f s).stage = s.stage ∧ (judgeDown f s).pins = s.pins ∧
    (judgeDown f s).time = s.time ∧ (judgeDown f s).tables = s.tables ∧ (judgeDown f s).image = s.image ∧
    (judgeDown f s).links = s.links ∧ (judgeDown f s).uplink = s.uplink ∧ (judgeDown f s).test = s.test ∧
    (judgeDown f s).results = s.results ∧ (judgeDown f s).pending = s.pending :=
    by simp only [judgeDown]; (repeat' split) <;> simp [*]
@[simp] theorem readyCredit_frame (l : LineNo) (c : Nat) (s : State) : (readyCredit l c s).stage = s.stage ∧
    (readyCredit l c s).pins = s.pins ∧ (readyCredit l c s).time = s.time ∧ (readyCredit l c s).tables = s.tables ∧
    (readyCredit l c s).image = s.image ∧ (readyCredit l c s).links = s.links ∧ (readyCredit l c s).uplink = s.uplink ∧
    (readyCredit l c s).share = s.share ∧ (readyCredit l c s).power = s.power ∧ (readyCredit l c s).test = s.test ∧
    (readyCredit l c s).results = s.results ∧ (readyCredit l c s).mgmt = s.mgmt ∧ (readyCredit l c s).notes = s.notes ∧
    (readyCredit l c s).pending = s.pending := by simp only [readyCredit]; (repeat' split) <;> simp [*]
@[simp] theorem grantEntry_frame (e : WaitEntry) (s : State) : (grantEntry e s).stage = s.stage ∧
    (grantEntry e s).pins = s.pins ∧ (grantEntry e s).time = s.time ∧ (grantEntry e s).tables = s.tables ∧
    (grantEntry e s).image = s.image ∧ (grantEntry e s).links = s.links ∧ (grantEntry e s).pool = s.pool ∧
    (grantEntry e s).uplink = s.uplink ∧ (grantEntry e s).test = s.test ∧ (grantEntry e s).results = s.results ∧
    (grantEntry e s).mgmt = s.mgmt ∧ (grantEntry e s).pending = s.pending :=
    by simp only [grantEntry]; (repeat' split) <;> simp [*]
@[simp] theorem scanPass_frame (es : List WaitEntry) (r : State × Bool) : (scanPass es r).1.stage = r.1.stage ∧
    (scanPass es r).1.pins = r.1.pins ∧ (scanPass es r).1.time = r.1.time ∧ (scanPass es r).1.tables = r.1.tables ∧
    (scanPass es r).1.image = r.1.image ∧ (scanPass es r).1.links = r.1.links ∧ (scanPass es r).1.pool = r.1.pool ∧
    (scanPass es r).1.uplink = r.1.uplink ∧ (scanPass es r).1.test = r.1.test ∧ (scanPass es r).1.results = r.1.results ∧
    (scanPass es r).1.mgmt = r.1.mgmt ∧ (scanPass es r).1.pending = r.1.pending := by
  induction es generalizing r with
  | nil => simp [scanPass]
  | cons e es ih => obtain ⟨s, b⟩ := r; simp only [scanPass]; split <;> simp [*]
@[simp] theorem scanLoop_frame (n : Nat) (s : State) : (scanLoop n s).stage = s.stage ∧ (scanLoop n s).pins = s.pins ∧
    (scanLoop n s).time = s.time ∧ (scanLoop n s).tables = s.tables ∧ (scanLoop n s).image = s.image ∧
    (scanLoop n s).links = s.links ∧ (scanLoop n s).pool = s.pool ∧ (scanLoop n s).uplink = s.uplink ∧
    (scanLoop n s).test = s.test ∧ (scanLoop n s).results = s.results ∧ (scanLoop n s).mgmt = s.mgmt ∧
    (scanLoop n s).pending = s.pending := by
  induction n generalizing s with
  | zero => simp [scanLoop]
  | succ n ih => simp only [scanLoop]; split <;> simp [*]
@[simp] theorem scan_frame  (s : State) : (scan s).stage = s.stage ∧ (scan s).pins = s.pins ∧ (scan s).time = s.time ∧
    (scan s).tables = s.tables ∧ (scan s).image = s.image ∧ (scan s).links = s.links ∧ (scan s).pool = s.pool ∧
    (scan s).uplink = s.uplink ∧ (scan s).test = s.test ∧ (scan s).results = s.results ∧ (scan s).mgmt = s.mgmt ∧
    (scan s).pending = s.pending := by simp only [scan]; (repeat' split) <;> simp [*]
@[simp] theorem deferTest_frame (e : TestReq) (s : State) : (deferTest e s).stage = s.stage ∧ (deferTest e s).pins = s.pins ∧
    (deferTest e s).time = s.time ∧ (deferTest e s).tables = s.tables ∧ (deferTest e s).image = s.image ∧
    (deferTest e s).lines = s.lines ∧ (deferTest e s).links = s.links ∧ (deferTest e s).pool = s.pool ∧
    (deferTest e s).uplink = s.uplink ∧ (deferTest e s).share = s.share ∧ (deferTest e s).power = s.power ∧
    (deferTest e s).notes = s.notes ∧ (deferTest e s).out = s.out ∧ (deferTest e s).pending = s.pending :=
    by simp only [deferTest]; (repeat' split) <;> simp [*]
@[simp] theorem startTest_frame (e : TestReq) (s : State) : (startTest e s).stage = s.stage ∧ (startTest e s).pins = s.pins ∧
    (startTest e s).time = s.time ∧ (startTest e s).tables = s.tables ∧ (startTest e s).image = s.image ∧
    (startTest e s).links = s.links ∧ (startTest e s).results = s.results ∧ (startTest e s).mgmt = s.mgmt ∧
    (startTest e s).pending = s.pending := by simp only [startTest]; (repeat' split) <;> simp [*]
@[simp] theorem arbiterPass_frame (ls : List LineNo) (s : State) : (arbiterPass ls s).stage = s.stage ∧
    (arbiterPass ls s).pins = s.pins ∧ (arbiterPass ls s).time = s.time ∧ (arbiterPass ls s).tables = s.tables ∧
    (arbiterPass ls s).image = s.image ∧ (arbiterPass ls s).links = s.links ∧ (arbiterPass ls s).pending = s.pending := by
  induction ls generalizing s with
  | nil => simp [arbiterPass]
  | cons l ls ih => simp only [arbiterPass]; (repeat' split) <;> simp [*]
@[simp] theorem runArbiter_frame  (s : State) : (runArbiter s).stage = s.stage ∧ (runArbiter s).pins = s.pins ∧
    (runArbiter s).time = s.time ∧ (runArbiter s).tables = s.tables ∧ (runArbiter s).image = s.image ∧
    (runArbiter s).links = s.links ∧ (runArbiter s).pending = s.pending :=
    by simp only [runArbiter]; (repeat' split) <;> simp [*]
@[simp] theorem settle_frame  (s : State) : (settle s).stage = s.stage ∧ (settle s).pins = s.pins ∧ (settle s).time = s.time ∧
    (settle s).tables = s.tables ∧ (settle s).image = s.image ∧ (settle s).links = s.links ∧ (settle s).pending = s.pending :=
    by simp only [settle]; (repeat' split) <;> simp [*]
@[simp] theorem modTest_frame (f : CurrentTest → CurrentTest) (s : State) : (modTest f s).stage = s.stage ∧
    (modTest f s).pins = s.pins ∧ (modTest f s).time = s.time ∧ (modTest f s).tables = s.tables ∧
    (modTest f s).image = s.image ∧ (modTest f s).lines = s.lines ∧ (modTest f s).links = s.links ∧
    (modTest f s).pool = s.pool ∧ (modTest f s).uplink = s.uplink ∧ (modTest f s).share = s.share ∧
    (modTest f s).power = s.power ∧ (modTest f s).results = s.results ∧ (modTest f s).mgmt = s.mgmt ∧
    (modTest f s).notes = s.notes ∧ (modTest f s).out = s.out ∧ (modTest f s).pending = s.pending := by simp [modTest]
@[simp] theorem enterRestore_frame  (s : State) : (enterRestore s).stage = s.stage ∧ (enterRestore s).pins = s.pins ∧
    (enterRestore s).time = s.time ∧ (enterRestore s).tables = s.tables ∧ (enterRestore s).image = s.image ∧
    (enterRestore s).lines = s.lines ∧ (enterRestore s).links = s.links ∧ (enterRestore s).pool = s.pool ∧
    (enterRestore s).uplink = s.uplink ∧ (enterRestore s).share = s.share ∧ (enterRestore s).power = s.power ∧
    (enterRestore s).results = s.results ∧ (enterRestore s).mgmt = s.mgmt ∧ (enterRestore s).notes = s.notes ∧
    (enterRestore s).pending = s.pending := by simp only [enterRestore]; (repeat' split) <;> simp [*]
@[simp] theorem nextStep_frame  (s : State) : (nextStep s).stage = s.stage ∧ (nextStep s).pins = s.pins ∧
    (nextStep s).time = s.time ∧ (nextStep s).tables = s.tables ∧ (nextStep s).image = s.image ∧ (nextStep s).lines = s.lines ∧
    (nextStep s).links = s.links ∧ (nextStep s).pool = s.pool ∧ (nextStep s).uplink = s.uplink ∧ (nextStep s).share = s.share ∧
    (nextStep s).power = s.power ∧ (nextStep s).results = s.results ∧ (nextStep s).mgmt = s.mgmt ∧
    (nextStep s).notes = s.notes ∧ (nextStep s).pending = s.pending := by simp only [nextStep]; (repeat' split) <;> simp [*]
@[simp] theorem enterMeasure_frame  (s : State) : (enterMeasure s).stage = s.stage ∧ (enterMeasure s).pins = s.pins ∧
    (enterMeasure s).time = s.time ∧ (enterMeasure s).tables = s.tables ∧ (enterMeasure s).image = s.image ∧
    (enterMeasure s).lines = s.lines ∧ (enterMeasure s).links = s.links ∧ (enterMeasure s).pool = s.pool ∧
    (enterMeasure s).uplink = s.uplink ∧ (enterMeasure s).share = s.share ∧ (enterMeasure s).power = s.power ∧
    (enterMeasure s).results = s.results ∧ (enterMeasure s).mgmt = s.mgmt ∧ (enterMeasure s).notes = s.notes ∧
    (enterMeasure s).pending = s.pending := by simp [enterMeasure]
@[simp] theorem takeResult_frame (m : Measurement) (t : CurrentTest) (j : Judgement) (s : State) : (takeResult m t j s).stage = s.stage ∧
    (takeResult m t j s).pins = s.pins ∧ (takeResult m t j s).time = s.time ∧ (takeResult m t j s).tables = s.tables ∧
    (takeResult m t j s).image = s.image ∧ (takeResult m t j s).links = s.links ∧ (takeResult m t j s).pool = s.pool ∧
    (takeResult m t j s).uplink = s.uplink ∧ (takeResult m t j s).share = s.share ∧ (takeResult m t j s).power = s.power ∧
    (takeResult m t j s).results = s.results ∧ (takeResult m t j s).mgmt = s.mgmt ∧ (takeResult m t j s).notes = s.notes ∧
    (takeResult m t j s).pending = s.pending := by simp only [takeResult]; (repeat' split) <;> simp [*]
@[simp] theorem judgeResult_frame (n : Nat) (m : Measurement) (s : State) : (judgeResult n m s).stage = s.stage ∧
    (judgeResult n m s).pins = s.pins ∧ (judgeResult n m s).time = s.time ∧ (judgeResult n m s).tables = s.tables ∧
    (judgeResult n m s).image = s.image ∧ (judgeResult n m s).links = s.links ∧ (judgeResult n m s).pool = s.pool ∧
    (judgeResult n m s).uplink = s.uplink ∧ (judgeResult n m s).share = s.share ∧ (judgeResult n m s).power = s.power ∧
    (judgeResult n m s).results = s.results ∧ (judgeResult n m s).mgmt = s.mgmt ∧ (judgeResult n m s).notes = s.notes ∧
    (judgeResult n m s).pending = s.pending := by simp only [judgeResult]; (repeat' split) <;> simp [*]
@[simp] theorem stepTimedOut_frame  (s : State) : (stepTimedOut s).stage = s.stage ∧ (stepTimedOut s).pins = s.pins ∧
    (stepTimedOut s).time = s.time ∧ (stepTimedOut s).tables = s.tables ∧ (stepTimedOut s).image = s.image ∧
    (stepTimedOut s).lines = s.lines ∧ (stepTimedOut s).links = s.links ∧ (stepTimedOut s).pool = s.pool ∧
    (stepTimedOut s).uplink = s.uplink ∧ (stepTimedOut s).share = s.share ∧ (stepTimedOut s).power = s.power ∧
    (stepTimedOut s).results = s.results ∧ (stepTimedOut s).mgmt = s.mgmt ∧ (stepTimedOut s).notes = s.notes ∧
    (stepTimedOut s).pending = s.pending := by simp only [stepTimedOut]; (repeat' split) <;> simp [*]
@[simp] theorem releaseHeld_frame  (s : State) : (releaseHeld s).stage = s.stage ∧ (releaseHeld s).pins = s.pins ∧
    (releaseHeld s).time = s.time ∧ (releaseHeld s).tables = s.tables ∧ (releaseHeld s).image = s.image ∧
    (releaseHeld s).lines = s.lines ∧ (releaseHeld s).links = s.links ∧ (releaseHeld s).pool = s.pool ∧
    (releaseHeld s).uplink = s.uplink ∧ (releaseHeld s).share = s.share ∧ (releaseHeld s).results = s.results ∧
    (releaseHeld s).mgmt = s.mgmt ∧ (releaseHeld s).out = s.out ∧ (releaseHeld s).pending = s.pending :=
    by simp only [releaseHeld]; (repeat' split) <;> simp [*]
@[simp] theorem freeBus_frame  (s : State) : (freeBus s).stage = s.stage ∧ (freeBus s).pins = s.pins ∧
    (freeBus s).time = s.time ∧ (freeBus s).tables = s.tables ∧ (freeBus s).image = s.image ∧ (freeBus s).lines = s.lines ∧
    (freeBus s).links = s.links ∧ (freeBus s).pool = s.pool ∧ (freeBus s).uplink = s.uplink ∧ (freeBus s).share = s.share ∧
    (freeBus s).power = s.power ∧ (freeBus s).results = s.results ∧ (freeBus s).mgmt = s.mgmt ∧ (freeBus s).out = s.out ∧
    (freeBus s).pending = s.pending := by simp [freeBus]
@[simp] theorem returnLine_frame (l : LineNo) (h : Bool) (s : State) : (returnLine l h s).stage = s.stage ∧
    (returnLine l h s).pins = s.pins ∧ (returnLine l h s).time = s.time ∧ (returnLine l h s).tables = s.tables ∧
    (returnLine l h s).image = s.image ∧ (returnLine l h s).links = s.links ∧ (returnLine l h s).pool = s.pool ∧
    (returnLine l h s).uplink = s.uplink ∧ (returnLine l h s).share = s.share ∧ (returnLine l h s).test = s.test ∧
    (returnLine l h s).results = s.results ∧ (returnLine l h s).mgmt = s.mgmt ∧ (returnLine l h s).pending = s.pending :=
    by simp only [returnLine]; (repeat' split) <;> simp [*]
@[simp] theorem endRestore_frame (t : CurrentTest) (s : State) : (endRestore t s).stage = s.stage ∧
    (endRestore t s).pins = s.pins ∧ (endRestore t s).time = s.time ∧ (endRestore t s).tables = s.tables ∧
    (endRestore t s).image = s.image ∧ (endRestore t s).links = s.links ∧ (endRestore t s).pool = s.pool ∧
    (endRestore t s).uplink = s.uplink ∧ (endRestore t s).share = s.share ∧ (endRestore t s).pending = s.pending :=
    by simp [endRestore]
@[simp] theorem enterFault_frame (t : CurrentTest) (s : State) : (enterFault t s).stage = s.stage ∧
    (enterFault t s).pins = s.pins ∧ (enterFault t s).time = s.time ∧ (enterFault t s).tables = s.tables ∧
    (enterFault t s).image = s.image ∧ (enterFault t s).links = s.links ∧ (enterFault t s).pool = s.pool ∧
    (enterFault t s).uplink = s.uplink ∧ (enterFault t s).share = s.share ∧ (enterFault t s).power = s.power ∧
    (enterFault t s).notes = s.notes ∧ (enterFault t s).pending = s.pending := by simp [enterFault]
@[simp] theorem clearFault_frame (t : CurrentTest) (s : State) : (clearFault t s).stage = s.stage ∧
    (clearFault t s).pins = s.pins ∧ (clearFault t s).time = s.time ∧ (clearFault t s).tables = s.tables ∧
    (clearFault t s).image = s.image ∧ (clearFault t s).links = s.links ∧ (clearFault t s).pool = s.pool ∧
    (clearFault t s).uplink = s.uplink ∧ (clearFault t s).share = s.share ∧ (clearFault t s).results = s.results ∧
    (clearFault t s).mgmt = s.mgmt ∧ (clearFault t s).pending = s.pending :=
    by simp only [clearFault]; (repeat' split) <;> simp [*]
@[simp] theorem judgeRelease_frame (n : Nat) (s : State) : (judgeRelease n s).stage = s.stage ∧
    (judgeRelease n s).pins = s.pins ∧ (judgeRelease n s).time = s.time ∧ (judgeRelease n s).tables = s.tables ∧
    (judgeRelease n s).image = s.image ∧ (judgeRelease n s).links = s.links ∧ (judgeRelease n s).pool = s.pool ∧
    (judgeRelease n s).uplink = s.uplink ∧ (judgeRelease n s).share = s.share ∧ (judgeRelease n s).pending = s.pending :=
    by simp only [judgeRelease]; (repeat' split) <;> simp [*]
@[simp] theorem cancelCurrent_frame  (s : State) : (cancelCurrent s).stage = s.stage ∧ (cancelCurrent s).pins = s.pins ∧
    (cancelCurrent s).time = s.time ∧ (cancelCurrent s).tables = s.tables ∧ (cancelCurrent s).image = s.image ∧
    (cancelCurrent s).lines = s.lines ∧ (cancelCurrent s).links = s.links ∧ (cancelCurrent s).pool = s.pool ∧
    (cancelCurrent s).uplink = s.uplink ∧ (cancelCurrent s).share = s.share ∧ (cancelCurrent s).power = s.power ∧
    (cancelCurrent s).results = s.results ∧ (cancelCurrent s).mgmt = s.mgmt ∧ (cancelCurrent s).notes = s.notes ∧
    (cancelCurrent s).pending = s.pending := by simp [cancelCurrent]
@[simp] theorem abortForPower_frame  (s : State) : (abortForPower s).stage = s.stage ∧ (abortForPower s).pins = s.pins ∧
    (abortForPower s).time = s.time ∧ (abortForPower s).tables = s.tables ∧ (abortForPower s).image = s.image ∧
    (abortForPower s).lines = s.lines ∧ (abortForPower s).links = s.links ∧ (abortForPower s).pool = s.pool ∧
    (abortForPower s).uplink = s.uplink ∧ (abortForPower s).share = s.share ∧ (abortForPower s).results = s.results ∧
    (abortForPower s).mgmt = s.mgmt ∧ (abortForPower s).pending = s.pending :=
    by simp only [abortForPower]; (repeat' split) <;> simp [*]
@[simp] theorem giveUpTest_frame  (s : State) : (giveUpTest s).stage = s.stage ∧ (giveUpTest s).pins = s.pins ∧
    (giveUpTest s).time = s.time ∧ (giveUpTest s).tables = s.tables ∧ (giveUpTest s).image = s.image ∧
    (giveUpTest s).lines = s.lines ∧ (giveUpTest s).links = s.links ∧ (giveUpTest s).pool = s.pool ∧
    (giveUpTest s).uplink = s.uplink ∧ (giveUpTest s).share = s.share ∧ (giveUpTest s).results = s.results ∧
    (giveUpTest s).mgmt = s.mgmt ∧ (giveUpTest s).pending = s.pending := by simp [giveUpTest]
@[simp] theorem shedTest_frame (s : State) : (shedTest s).stage = s.stage ∧ (shedTest s).pins = s.pins ∧
    (shedTest s).time = s.time ∧ (shedTest s).tables = s.tables ∧ (shedTest s).image = s.image ∧
    (shedTest s).lines = s.lines ∧ (shedTest s).links = s.links ∧ (shedTest s).pool = s.pool ∧
    (shedTest s).uplink = s.uplink ∧ (shedTest s).share = s.share ∧ (shedTest s).results = s.results ∧
    (shedTest s).mgmt = s.mgmt ∧ (shedTest s).pending = s.pending := by simp only [shedTest]; split <;> simp
@[simp] theorem disableLine_frame (l : LineNo) (s : State) : (disableLine l s).stage = s.stage ∧
    (disableLine l s).pins = s.pins ∧ (disableLine l s).time = s.time ∧ (disableLine l s).tables = s.tables ∧
    (disableLine l s).image = s.image ∧ (disableLine l s).links = s.links ∧ (disableLine l s).pending = s.pending :=
    by simp only [disableLine]; (repeat' split) <;> simp [*]
@[simp] theorem enableLine_frame (l : LineNo) (s : State) : (enableLine l s).stage = s.stage ∧ (enableLine l s).pins = s.pins ∧
    (enableLine l s).time = s.time ∧ (enableLine l s).tables = s.tables ∧ (enableLine l s).image = s.image ∧
    (enableLine l s).links = s.links ∧ (enableLine l s).pool = s.pool ∧ (enableLine l s).uplink = s.uplink ∧
    (enableLine l s).share = s.share ∧ (enableLine l s).test = s.test ∧ (enableLine l s).results = s.results ∧
    (enableLine l s).mgmt = s.mgmt ∧ (enableLine l s).out = s.out ∧ (enableLine l s).pending = s.pending :=
    by simp only [enableLine]; (repeat' split) <;> simp [*]
@[simp] theorem shedWhileOverS_frame (ls : List LineNo) (s : State) : (shedWhileOver ls shedLine s).stage = s.stage ∧
    (shedWhileOver ls shedLine s).pins = s.pins ∧ (shedWhileOver ls shedLine s).time = s.time ∧
    (shedWhileOver ls shedLine s).tables = s.tables ∧ (shedWhileOver ls shedLine s).image = s.image ∧
    (shedWhileOver ls shedLine s).links = s.links ∧ (shedWhileOver ls shedLine s).test = s.test ∧
    (shedWhileOver ls shedLine s).results = s.results ∧ (shedWhileOver ls shedLine s).pending = s.pending :=
    by simp [shedWhileOver, apply_ite State.stage, apply_ite State.pins, apply_ite State.time, apply_ite State.tables,
    apply_ite State.image, apply_ite State.links, apply_ite State.test, apply_ite State.results, apply_ite State.pending,
    forLines_stage, forLines_pins, forLines_time, forLines_tables, forLines_image, forLines_links, forLines_test,
    forLines_results, forLines_pending]
@[simp] theorem shedWhileOverD_frame (ls : List LineNo) (s : State) : (shedWhileOver ls demote s).stage = s.stage ∧
    (shedWhileOver ls demote s).pins = s.pins ∧ (shedWhileOver ls demote s).time = s.time ∧
    (shedWhileOver ls demote s).tables = s.tables ∧ (shedWhileOver ls demote s).image = s.image ∧
    (shedWhileOver ls demote s).links = s.links ∧ (shedWhileOver ls demote s).pool = s.pool ∧
    (shedWhileOver ls demote s).uplink = s.uplink ∧ (shedWhileOver ls demote s).power = s.power ∧
    (shedWhileOver ls demote s).test = s.test ∧ (shedWhileOver ls demote s).results = s.results ∧
    (shedWhileOver ls demote s).mgmt = s.mgmt ∧ (shedWhileOver ls demote s).pending = s.pending := by simp [shedWhileOver,
    apply_ite State.stage, apply_ite State.pins, apply_ite State.time, apply_ite State.tables, apply_ite State.image,
    apply_ite State.links, apply_ite State.pool, apply_ite State.uplink, apply_ite State.power, apply_ite State.test,
    apply_ite State.results, apply_ite State.mgmt, apply_ite State.pending, forLines_stage, forLines_pins, forLines_time,
    forLines_tables, forLines_image, forLines_links, forLines_pool, forLines_uplink, forLines_power, forLines_test,
    forLines_results, forLines_mgmt, forLines_pending]
@[simp] theorem shedEntries_frame (b : State) (s : State) : (shedEntries b s).stage = s.stage ∧
    (shedEntries b s).pins = s.pins ∧ (shedEntries b s).time = s.time ∧ (shedEntries b s).tables = s.tables ∧
    (shedEntries b s).image = s.image ∧ (shedEntries b s).lines = s.lines ∧ (shedEntries b s).links = s.links ∧
    (shedEntries b s).pool = s.pool ∧ (shedEntries b s).uplink = s.uplink ∧ (shedEntries b s).share = s.share ∧
    (shedEntries b s).test = s.test ∧ (shedEntries b s).results = s.results ∧ (shedEntries b s).mgmt = s.mgmt ∧
    (shedEntries b s).notes = s.notes ∧ (shedEntries b s).out = s.out ∧ (shedEntries b s).pending = s.pending :=
    by simp [shedEntries, apply_ite State.stage, apply_ite State.pins, apply_ite State.time, apply_ite State.tables,
    apply_ite State.image, apply_ite State.lines, apply_ite State.links, apply_ite State.pool, apply_ite State.uplink,
    apply_ite State.share, apply_ite State.test, apply_ite State.results, apply_ite State.mgmt, apply_ite State.notes,
    apply_ite State.out, apply_ite State.pending, forLines_stage, forLines_pins, forLines_time, forLines_tables, forLines_image,
    forLines_lines, forLines_links, forLines_pool, forLines_uplink, forLines_share, forLines_test, forLines_results,
    forLines_mgmt, forLines_notes, forLines_out, forLines_pending]
@[simp] theorem shed_frame  (s : State) : (shed s).stage = s.stage ∧ (shed s).pins = s.pins ∧ (shed s).time = s.time ∧
    (shed s).tables = s.tables ∧ (shed s).image = s.image ∧ (shed s).links = s.links ∧ (shed s).results = s.results ∧
    (shed s).pending = s.pending := by simp only [shed]; (repeat' split) <;> simp [*]
@[simp] theorem useReference_frame (r : Reference) (s : State) : (useReference r s).stage = s.stage ∧
    (useReference r s).pins = s.pins ∧ (useReference r s).tables = s.tables ∧ (useReference r s).image = s.image ∧
    (useReference r s).lines = s.lines ∧ (useReference r s).links = s.links ∧ (useReference r s).pool = s.pool ∧
    (useReference r s).uplink = s.uplink ∧ (useReference r s).share = s.share ∧ (useReference r s).power = s.power ∧
    (useReference r s).test = s.test ∧ (useReference r s).results = s.results ∧ (useReference r s).mgmt = s.mgmt ∧
    (useReference r s).notes = s.notes ∧ (useReference r s).out = s.out ∧ (useReference r s).pending = s.pending :=
    by simp only [useReference]; (repeat' split) <;> simp [*]
@[simp] theorem followReference_frame  (s : State) : (followReference s).stage = s.stage ∧ (followReference s).pins = s.pins ∧
    (followReference s).tables = s.tables ∧ (followReference s).image = s.image ∧ (followReference s).lines = s.lines ∧
    (followReference s).links = s.links ∧ (followReference s).pool = s.pool ∧ (followReference s).uplink = s.uplink ∧
    (followReference s).share = s.share ∧ (followReference s).power = s.power ∧ (followReference s).test = s.test ∧
    (followReference s).results = s.results ∧ (followReference s).notes = s.notes ∧ (followReference s).out = s.out ∧
    (followReference s).pending = s.pending := by simp only [followReference]; (repeat' split) <;> simp [*]
@[simp] theorem startMillisecond_frame  (s : State) : (startMillisecond s).stage = s.stage ∧
    (startMillisecond s).pins = s.pins ∧ (startMillisecond s).tables = s.tables ∧ (startMillisecond s).image = s.image ∧
    (startMillisecond s).lines = s.lines ∧ (startMillisecond s).links = s.links ∧ (startMillisecond s).pool = s.pool ∧
    (startMillisecond s).uplink = s.uplink ∧ (startMillisecond s).share = s.share ∧ (startMillisecond s).power = s.power ∧
    (startMillisecond s).test = s.test ∧ (startMillisecond s).results = s.results ∧ (startMillisecond s).mgmt = s.mgmt ∧
    (startMillisecond s).notes = s.notes ∧ (startMillisecond s).out = s.out ∧ (startMillisecond s).pending = s.pending :=
    by simp only [startMillisecond]; (repeat' split) <;> simp [*]
@[simp] theorem armFeed_frame  (s : State) : (armFeed s).stage = s.stage ∧ (armFeed s).pins = s.pins ∧
    (armFeed s).time = s.time ∧ (armFeed s).image = s.image ∧ (armFeed s).lines = s.lines ∧ (armFeed s).links = s.links ∧
    (armFeed s).pool = s.pool ∧ (armFeed s).uplink = s.uplink ∧ (armFeed s).share = s.share ∧ (armFeed s).power = s.power ∧
    (armFeed s).test = s.test ∧ (armFeed s).results = s.results ∧ (armFeed s).mgmt = s.mgmt ∧ (armFeed s).notes = s.notes ∧
    (armFeed s).out = s.out ∧ (armFeed s).pending = s.pending := by simp only [armFeed]; (repeat' split) <;> simp [*]
@[simp] theorem dormantLine_frame (l : LineNo) (s : State) : (dormantLine l s).stage = s.stage ∧
    (dormantLine l s).pins = s.pins ∧ (dormantLine l s).time = s.time ∧ (dormantLine l s).tables = s.tables ∧
    (dormantLine l s).image = s.image ∧ (dormantLine l s).links = s.links ∧ (dormantLine l s).test = s.test ∧
    (dormantLine l s).results = s.results ∧ (dormantLine l s).mgmt = s.mgmt ∧ (dormantLine l s).pending = s.pending :=
    by simp only [dormantLine]; (repeat' split) <;> simp [*]
@[simp] theorem dormantMode_frame (l : LineNo) (s : State) : (dormantMode l s).stage = s.stage ∧
    (dormantMode l s).pins = s.pins ∧ (dormantMode l s).time = s.time ∧ (dormantMode l s).tables = s.tables ∧
    (dormantMode l s).image = s.image ∧ (dormantMode l s).links = s.links ∧ (dormantMode l s).pool = s.pool ∧
    (dormantMode l s).uplink = s.uplink ∧ (dormantMode l s).share = s.share ∧ (dormantMode l s).power = s.power ∧
    (dormantMode l s).test = s.test ∧ (dormantMode l s).results = s.results ∧ (dormantMode l s).mgmt = s.mgmt ∧
    (dormantMode l s).notes = s.notes ∧ (dormantMode l s).pending = s.pending := by
  simp only [dormantMode]; split <;> simp
@[simp] theorem dropTests_frame  (s : State) : (dropTests s).stage = s.stage ∧ (dropTests s).pins = s.pins ∧
    (dropTests s).time = s.time ∧ (dropTests s).tables = s.tables ∧ (dropTests s).image = s.image ∧
    (dropTests s).lines = s.lines ∧ (dropTests s).links = s.links ∧ (dropTests s).pool = s.pool ∧
    (dropTests s).uplink = s.uplink ∧ (dropTests s).share = s.share ∧ (dropTests s).power = s.power ∧
    (dropTests s).results = s.results ∧ (dropTests s).notes = s.notes ∧ (dropTests s).out = s.out ∧
    (dropTests s).pending = s.pending := by simp only [dropTests]; (repeat' split) <;> simp [*]
@[simp] theorem notificationLeft_frame (b : Bool) (s : State) : (notificationLeft b s).stage = s.stage ∧
    (notificationLeft b s).pins = s.pins ∧ (notificationLeft b s).time = s.time ∧ (notificationLeft b s).tables = s.tables ∧
    (notificationLeft b s).image = s.image ∧ (notificationLeft b s).lines = s.lines ∧ (notificationLeft b s).links = s.links ∧
    (notificationLeft b s).pool = s.pool ∧ (notificationLeft b s).uplink = s.uplink ∧ (notificationLeft b s).share = s.share ∧
    (notificationLeft b s).power = s.power ∧ (notificationLeft b s).test = s.test ∧ (notificationLeft b s).results = s.results ∧
    (notificationLeft b s).notes = s.notes ∧ (notificationLeft b s).out = s.out ∧ (notificationLeft b s).pending = s.pending :=
    by simp [notificationLeft]
@[simp] theorem noteDiscardedRestart_frame  (s : State) : (noteDiscardedRestart s).stage = s.stage ∧
    (noteDiscardedRestart s).pins = s.pins ∧ (noteDiscardedRestart s).time = s.time ∧
    (noteDiscardedRestart s).tables = s.tables ∧ (noteDiscardedRestart s).image = s.image ∧
    (noteDiscardedRestart s).lines = s.lines ∧ (noteDiscardedRestart s).links = s.links ∧
    (noteDiscardedRestart s).pool = s.pool ∧ (noteDiscardedRestart s).uplink = s.uplink ∧
    (noteDiscardedRestart s).share = s.share ∧ (noteDiscardedRestart s).power = s.power ∧
    (noteDiscardedRestart s).test = s.test ∧ (noteDiscardedRestart s).results = s.results ∧
    (noteDiscardedRestart s).mgmt = s.mgmt ∧ (noteDiscardedRestart s).out = s.out ∧
    (noteDiscardedRestart s).pending = s.pending := by simp only [noteDiscardedRestart]; (repeat' split) <;> simp [*]
@[simp] theorem changeMode_frame (m : Mode) (s : State) : (changeMode m s).stage = s.stage ∧ (changeMode m s).pins = s.pins ∧
    (changeMode m s).time = s.time ∧ (changeMode m s).tables = s.tables ∧ (changeMode m s).image = s.image ∧
    (changeMode m s).links = s.links ∧ (changeMode m s).results = s.results ∧ (changeMode m s).pending = s.pending :=
    by simp only [changeMode]; (repeat' split) <;> simp [*]
@[simp] theorem listenEntries_frame  (s : State) : (listenEntries s).stage = s.stage ∧ (listenEntries s).pins = s.pins ∧
    (listenEntries s).time = s.time ∧ (listenEntries s).tables = s.tables ∧ (listenEntries s).image = s.image ∧
    (listenEntries s).lines = s.lines ∧ (listenEntries s).links = s.links ∧ (listenEntries s).pool = s.pool ∧
    (listenEntries s).uplink = s.uplink ∧ (listenEntries s).share = s.share ∧ (listenEntries s).test = s.test ∧
    (listenEntries s).results = s.results ∧ (listenEntries s).mgmt = s.mgmt ∧ (listenEntries s).out = s.out ∧
    (listenEntries s).pending = s.pending := by simp [listenEntries, apply_ite State.stage, apply_ite State.pins,
    apply_ite State.time, apply_ite State.tables, apply_ite State.image, apply_ite State.lines, apply_ite State.links,
    apply_ite State.pool, apply_ite State.uplink, apply_ite State.share, apply_ite State.test, apply_ite State.results,
    apply_ite State.mgmt, apply_ite State.out, apply_ite State.pending, forLines_stage, forLines_pins, forLines_time,
    forLines_tables, forLines_image, forLines_lines, forLines_links, forLines_pool, forLines_uplink, forLines_share,
    forLines_test, forLines_results, forLines_mgmt, forLines_out, forLines_pending]
@[simp] theorem endWakeListening_frame (l : LineNo) (s : State) : (endWakeListening l s).stage = s.stage ∧
    (endWakeListening l s).pins = s.pins ∧ (endWakeListening l s).time = s.time ∧ (endWakeListening l s).tables = s.tables ∧
    (endWakeListening l s).image = s.image ∧ (endWakeListening l s).links = s.links ∧ (endWakeListening l s).pool = s.pool ∧
    (endWakeListening l s).uplink = s.uplink ∧ (endWakeListening l s).share = s.share ∧ (endWakeListening l s).power = s.power ∧
    (endWakeListening l s).test = s.test ∧ (endWakeListening l s).results = s.results ∧ (endWakeListening l s).mgmt = s.mgmt ∧
    (endWakeListening l s).notes = s.notes ∧ (endWakeListening l s).pending = s.pending :=
    by simp only [endWakeListening]; (repeat' split) <;> simp [*]
@[simp] theorem dormantExit_frame  (s : State) : (dormantExit s).stage = s.stage ∧ (dormantExit s).pins = s.pins ∧
    (dormantExit s).time = s.time ∧ (dormantExit s).tables = s.tables ∧ (dormantExit s).image = s.image ∧
    (dormantExit s).links = s.links ∧ (dormantExit s).pool = s.pool ∧ (dormantExit s).test = s.test ∧
    (dormantExit s).results = s.results ∧ (dormantExit s).pending = s.pending := by simp [dormantExit, forLines_stage,
    forLines_pins, forLines_time, forLines_tables, forLines_image, forLines_links, forLines_pool, forLines_test,
    forLines_results, forLines_pending]
@[simp] theorem testExit_frame  (s : State) : (testExit s).stage = s.stage ∧ (testExit s).pins = s.pins ∧
    (testExit s).time = s.time ∧ (testExit s).tables = s.tables ∧ (testExit s).image = s.image ∧ (testExit s).links = s.links ∧
    (testExit s).pool = s.pool ∧ (testExit s).test = s.test ∧ (testExit s).results = s.results ∧
    (testExit s).pending = s.pending := by simp only [testExit]; (repeat' split) <;> simp [*]
@[simp] theorem wakeEvent_frame (src : WakeSource) (i : Nat) (s : State) : (wakeEvent src i s).stage = s.stage ∧
    (wakeEvent src i s).pins = s.pins ∧ (wakeEvent src i s).time = s.time ∧ (wakeEvent src i s).tables = s.tables ∧
    (wakeEvent src i s).image = s.image ∧ (wakeEvent src i s).links = s.links ∧ (wakeEvent src i s).pool = s.pool ∧
    (wakeEvent src i s).test = s.test ∧ (wakeEvent src i s).results = s.results ∧ (wakeEvent src i s).pending = s.pending :=
    by simp only [wakeEvent]; (repeat' split) <;> simp [*]
@[simp] theorem startPoll_frame  (s : State) : (startPoll s).stage = s.stage ∧ (startPoll s).pins = s.pins ∧
    (startPoll s).time = s.time ∧ (startPoll s).tables = s.tables ∧ (startPoll s).image = s.image ∧
    (startPoll s).lines = s.lines ∧ (startPoll s).links = s.links ∧ (startPoll s).pool = s.pool ∧
    (startPoll s).uplink = s.uplink ∧ (startPoll s).share = s.share ∧ (startPoll s).test = s.test ∧
    (startPoll s).results = s.results ∧ (startPoll s).mgmt = s.mgmt ∧ (startPoll s).notes = s.notes ∧
    (startPoll s).pending = s.pending := by simp [startPoll]
@[simp] theorem placeControl_frame (c : CtlFrame) (s : State) : (placeControl c s).stage = s.stage ∧
    (placeControl c s).pins = s.pins ∧ (placeControl c s).time = s.time ∧ (placeControl c s).tables = s.tables ∧
    (placeControl c s).image = s.image ∧ (placeControl c s).lines = s.lines ∧ (placeControl c s).links = s.links ∧
    (placeControl c s).pool = s.pool ∧ (placeControl c s).share = s.share ∧ (placeControl c s).power = s.power ∧
    (placeControl c s).test = s.test ∧ (placeControl c s).results = s.results ∧ (placeControl c s).mgmt = s.mgmt ∧
    (placeControl c s).notes = s.notes ∧ (placeControl c s).out = s.out ∧ (placeControl c s).pending = s.pending :=
    by simp [placeControl]
@[simp] theorem buildNotification_frame  (s : State) : (buildNotification s).stage = s.stage ∧
    (buildNotification s).pins = s.pins ∧ (buildNotification s).time = s.time ∧ (buildNotification s).tables = s.tables ∧
    (buildNotification s).image = s.image ∧ (buildNotification s).lines = s.lines ∧ (buildNotification s).links = s.links ∧
    (buildNotification s).pool = s.pool ∧ (buildNotification s).share = s.share ∧ (buildNotification s).power = s.power ∧
    (buildNotification s).test = s.test ∧ (buildNotification s).results = s.results ∧ (buildNotification s).notes = s.notes ∧
    (buildNotification s).out = s.out ∧ (buildNotification s).pending = s.pending :=
    by simp only [buildNotification]; (repeat' split) <;> simp [*]
@[simp] theorem respond_frame (f : Bytes) (r : Reply) (s : State) : (respond f r s).stage = s.stage ∧
    (respond f r s).pins = s.pins ∧ (respond f r s).time = s.time ∧ (respond f r s).tables = s.tables ∧
    (respond f r s).image = s.image ∧ (respond f r s).lines = s.lines ∧ (respond f r s).links = s.links ∧
    (respond f r s).pool = s.pool ∧ (respond f r s).share = s.share ∧ (respond f r s).power = s.power ∧
    (respond f r s).test = s.test ∧ (respond f r s).results = s.results ∧ (respond f r s).mgmt = s.mgmt ∧
    (respond f r s).notes = s.notes ∧ (respond f r s).out = s.out ∧ (respond f r s).pending = s.pending := by simp [respond]
@[simp] theorem discardControl_frame (s : State) : (discardControl s).stage = s.stage ∧
    (discardControl s).pins = s.pins ∧ (discardControl s).time = s.time ∧ (discardControl s).tables = s.tables ∧
    (discardControl s).image = s.image ∧ (discardControl s).lines = s.lines ∧ (discardControl s).links = s.links ∧
    (discardControl s).pool = s.pool ∧ (discardControl s).share = s.share ∧ (discardControl s).power = s.power ∧
    (discardControl s).test = s.test ∧ (discardControl s).results = s.results ∧ (discardControl s).mgmt = s.mgmt ∧
    (discardControl s).notes = s.notes ∧ (discardControl s).out = s.out ∧ (discardControl s).pending = s.pending := by simp [discardControl]
@[simp] theorem respondAfter_frame (a : State) (f : Bytes) (r : Reply) (s : State) : (respondAfter a f r s).stage = s.stage ∧
    (respondAfter a f r s).pins = s.pins ∧ (respondAfter a f r s).time = s.time ∧ (respondAfter a f r s).tables = s.tables ∧
    (respondAfter a f r s).image = s.image ∧ (respondAfter a f r s).lines = s.lines ∧ (respondAfter a f r s).links = s.links ∧
    (respondAfter a f r s).pool = s.pool ∧ (respondAfter a f r s).share = s.share ∧ (respondAfter a f r s).power = s.power ∧
    (respondAfter a f r s).test = s.test ∧ (respondAfter a f r s).results = s.results ∧ (respondAfter a f r s).mgmt = s.mgmt ∧
    (respondAfter a f r s).notes = s.notes ∧ (respondAfter a f r s).out = s.out ∧ (respondAfter a f r s).pending = s.pending := by
  simp only [respondAfter]; split <;> simp
@[simp] theorem linkHeard_frame (k : LinkNo) (s : State) : (linkHeard k s).stage = s.stage ∧ (linkHeard k s).pins = s.pins ∧
    (linkHeard k s).time = s.time ∧ (linkHeard k s).tables = s.tables ∧ (linkHeard k s).image = s.image ∧
    (linkHeard k s).lines = s.lines ∧ (linkHeard k s).pool = s.pool ∧ (linkHeard k s).uplink = s.uplink ∧
    (linkHeard k s).share = s.share ∧ (linkHeard k s).power = s.power ∧ (linkHeard k s).test = s.test ∧
    (linkHeard k s).results = s.results ∧ (linkHeard k s).mgmt = s.mgmt ∧ (linkHeard k s).notes = s.notes ∧
    (linkHeard k s).pending = s.pending := by simp [linkHeard, State.modLink, resendMode, apply_ite State.stage,
    apply_ite State.pins, apply_ite State.time, apply_ite State.tables, apply_ite State.image, apply_ite State.lines,
    apply_ite State.pool, apply_ite State.uplink, apply_ite State.share, apply_ite State.power, apply_ite State.test,
    apply_ite State.results, apply_ite State.mgmt, apply_ite State.notes, apply_ite State.pending, forLines_stage,
    forLines_pins, forLines_time, forLines_tables, forLines_image, forLines_lines, forLines_pool, forLines_uplink,
    forLines_share, forLines_power, forLines_test, forLines_results, forLines_mgmt, forLines_notes, forLines_pending]
@[simp] theorem judgeEnergy_frame (n : Nat) (l : LineNo) (s : State) : (judgeEnergy n l s).stage = s.stage ∧
    (judgeEnergy n l s).pins = s.pins ∧ (judgeEnergy n l s).time = s.time ∧ (judgeEnergy n l s).tables = s.tables ∧
    (judgeEnergy n l s).image = s.image ∧ (judgeEnergy n l s).links = s.links ∧ (judgeEnergy n l s).pool = s.pool ∧
    (judgeEnergy n l s).test = s.test ∧ (judgeEnergy n l s).results = s.results ∧ (judgeEnergy n l s).pending = s.pending :=
    by simp only [judgeEnergy]; (repeat' split) <;> simp [*]
@[simp] theorem expireIdle_frame (l : LineNo) (s : State) : (expireIdle l s).stage = s.stage ∧ (expireIdle l s).pins = s.pins ∧
    (expireIdle l s).time = s.time ∧ (expireIdle l s).tables = s.tables ∧ (expireIdle l s).image = s.image ∧
    (expireIdle l s).links = s.links ∧ (expireIdle l s).pool = s.pool ∧ (expireIdle l s).uplink = s.uplink ∧
    (expireIdle l s).power = s.power ∧ (expireIdle l s).test = s.test ∧ (expireIdle l s).results = s.results ∧
    (expireIdle l s).mgmt = s.mgmt ∧ (expireIdle l s).pending = s.pending :=
    by simp only [expireIdle]; (repeat' split) <;> simp [*]
@[simp] theorem linkUp_frame  (s : State) : (linkUp s).stage = s.stage ∧ (linkUp s).pins = s.pins ∧
    (linkUp s).tables = s.tables ∧ (linkUp s).image = s.image ∧ (linkUp s).lines = s.lines ∧ (linkUp s).links = s.links ∧
    (linkUp s).pool = s.pool ∧ (linkUp s).power = s.power ∧ (linkUp s).test = s.test ∧ (linkUp s).results = s.results ∧
    (linkUp s).notes = s.notes ∧ (linkUp s).out = s.out ∧ (linkUp s).pending = s.pending :=
    by simp only [linkUp]; (repeat' split) <;> simp [*]
@[simp] theorem markReference_frame (b : Bool) (s : State) : (markReference b s).stage = s.stage ∧
    (markReference b s).pins = s.pins ∧ (markReference b s).tables = s.tables ∧ (markReference b s).image = s.image ∧
    (markReference b s).lines = s.lines ∧ (markReference b s).links = s.links ∧ (markReference b s).pool = s.pool ∧
    (markReference b s).share = s.share ∧ (markReference b s).power = s.power ∧ (markReference b s).test = s.test ∧
    (markReference b s).results = s.results ∧ (markReference b s).notes = s.notes ∧ (markReference b s).out = s.out ∧
    (markReference b s).pending = s.pending := by simp [markReference]
@[simp] theorem takeRate_frame (n : Nat) (s : State) : (takeRate n s).stage = s.stage ∧ (takeRate n s).pins = s.pins ∧
    (takeRate n s).time = s.time ∧ (takeRate n s).tables = s.tables ∧ (takeRate n s).image = s.image ∧
    (takeRate n s).lines = s.lines ∧ (takeRate n s).links = s.links ∧ (takeRate n s).pool = s.pool ∧
    (takeRate n s).power = s.power ∧ (takeRate n s).test = s.test ∧ (takeRate n s).results = s.results ∧
    (takeRate n s).notes = s.notes ∧ (takeRate n s).out = s.out ∧ (takeRate n s).pending = s.pending := by simp [takeRate]
@[simp] theorem takeHold_frame (n : Nat) (s : State) : (takeHold n s).stage = s.stage ∧ (takeHold n s).pins = s.pins ∧
    (takeHold n s).time = s.time ∧ (takeHold n s).tables = s.tables ∧ (takeHold n s).image = s.image ∧
    (takeHold n s).lines = s.lines ∧ (takeHold n s).links = s.links ∧ (takeHold n s).pool = s.pool ∧
    (takeHold n s).share = s.share ∧ (takeHold n s).power = s.power ∧ (takeHold n s).test = s.test ∧
    (takeHold n s).results = s.results ∧ (takeHold n s).mgmt = s.mgmt ∧ (takeHold n s).notes = s.notes ∧
    (takeHold n s).out = s.out ∧ (takeHold n s).pending = s.pending := by simp [takeHold]
@[simp] theorem takeTerminal_frame (f : Bytes) (s : State) : (takeTerminal f s).stage = s.stage ∧
    (takeTerminal f s).pins = s.pins ∧ (takeTerminal f s).time = s.time ∧ (takeTerminal f s).tables = s.tables ∧
    (takeTerminal f s).image = s.image ∧ (takeTerminal f s).lines = s.lines ∧ (takeTerminal f s).links = s.links ∧
    (takeTerminal f s).pool = s.pool ∧ (takeTerminal f s).power = s.power ∧ (takeTerminal f s).test = s.test ∧
    (takeTerminal f s).results = s.results ∧ (takeTerminal f s).notes = s.notes ∧ (takeTerminal f s).out = s.out ∧
    (takeTerminal f s).pending = s.pending := by simp only [takeTerminal]; (repeat' split) <;> simp [*]
@[simp] theorem takeRequest_frame (f : Bytes) (s : State) : (takeRequest f s).stage = s.stage ∧
    (takeRequest f s).pins = s.pins ∧ (takeRequest f s).time = s.time ∧ (takeRequest f s).tables = s.tables ∧
    (takeRequest f s).image = s.image ∧ (takeRequest f s).lines = s.lines ∧ (takeRequest f s).links = s.links ∧
    (takeRequest f s).pool = s.pool ∧ (takeRequest f s).uplink = s.uplink ∧ (takeRequest f s).share = s.share ∧
    (takeRequest f s).power = s.power ∧ (takeRequest f s).test = s.test ∧ (takeRequest f s).results = s.results ∧
    (takeRequest f s).notes = s.notes ∧ (takeRequest f s).out = s.out ∧ (takeRequest f s).pending = s.pending :=
    by simp only [takeRequest]; (repeat' split) <;> simp [*]
@[simp] theorem receiveFrame_frame (f : Bytes) (s : State) : (receiveFrame f s).stage = s.stage ∧
    (receiveFrame f s).pins = s.pins ∧ (receiveFrame f s).time = s.time ∧ (receiveFrame f s).tables = s.tables ∧
    (receiveFrame f s).image = s.image ∧ (receiveFrame f s).links = s.links ∧ (receiveFrame f s).test = s.test ∧
    (receiveFrame f s).results = s.results ∧ (receiveFrame f s).pending = s.pending :=
    by simp only [receiveFrame]; (repeat' split) <;> simp [*]
@[simp] theorem completeReshare_frame  (s : State) : (completeReshare s).stage = s.stage ∧ (completeReshare s).pins = s.pins ∧
    (completeReshare s).time = s.time ∧ (completeReshare s).tables = s.tables ∧ (completeReshare s).image = s.image ∧
    (completeReshare s).links = s.links ∧ (completeReshare s).pool = s.pool ∧ (completeReshare s).uplink = s.uplink ∧
    (completeReshare s).power = s.power ∧ (completeReshare s).test = s.test ∧ (completeReshare s).results = s.results ∧
    (completeReshare s).notes = s.notes ∧ (completeReshare s).out = s.out ∧ (completeReshare s).pending = s.pending :=
    by simp only [completeReshare]; (repeat' split) <;> simp [*]
@[simp] theorem expireQuiet_frame  (s : State) : (expireQuiet s).stage = s.stage ∧ (expireQuiet s).pins = s.pins ∧
    (expireQuiet s).time = s.time ∧ (expireQuiet s).tables = s.tables ∧ (expireQuiet s).image = s.image ∧
    (expireQuiet s).lines = s.lines ∧ (expireQuiet s).links = s.links ∧ (expireQuiet s).pool = s.pool ∧
    (expireQuiet s).uplink = s.uplink ∧ (expireQuiet s).share = s.share ∧ (expireQuiet s).power = s.power ∧
    (expireQuiet s).results = s.results ∧ (expireQuiet s).mgmt = s.mgmt ∧ (expireQuiet s).out = s.out ∧
    (expireQuiet s).pending = s.pending := by simp only [expireQuiet]; (repeat' split) <;> simp [*]
@[simp] theorem judgeConnect_frame (n : Nat) (s : State) : (judgeConnect n s).stage = s.stage ∧
    (judgeConnect n s).pins = s.pins ∧ (judgeConnect n s).time = s.time ∧ (judgeConnect n s).tables = s.tables ∧
    (judgeConnect n s).image = s.image ∧ (judgeConnect n s).lines = s.lines ∧ (judgeConnect n s).links = s.links ∧
    (judgeConnect n s).pool = s.pool ∧ (judgeConnect n s).uplink = s.uplink ∧ (judgeConnect n s).share = s.share ∧
    (judgeConnect n s).power = s.power ∧ (judgeConnect n s).results = s.results ∧ (judgeConnect n s).mgmt = s.mgmt ∧
    (judgeConnect n s).notes = s.notes ∧ (judgeConnect n s).pending = s.pending :=
    by simp only [judgeConnect]; (repeat' split) <;> simp [*]
@[simp] theorem expirePrepare_frame  (s : State) : (expirePrepare s).stage = s.stage ∧ (expirePrepare s).pins = s.pins ∧
    (expirePrepare s).time = s.time ∧ (expirePrepare s).tables = s.tables ∧ (expirePrepare s).image = s.image ∧
    (expirePrepare s).lines = s.lines ∧ (expirePrepare s).links = s.links ∧ (expirePrepare s).pool = s.pool ∧
    (expirePrepare s).uplink = s.uplink ∧ (expirePrepare s).share = s.share ∧ (expirePrepare s).power = s.power ∧
    (expirePrepare s).results = s.results ∧ (expirePrepare s).mgmt = s.mgmt ∧ (expirePrepare s).notes = s.notes ∧
    (expirePrepare s).pending = s.pending := by simp only [expirePrepare]; (repeat' split) <;> simp [*]
@[simp] theorem expireRestore_frame  (s : State) : (expireRestore s).stage = s.stage ∧ (expireRestore s).pins = s.pins ∧
    (expireRestore s).time = s.time ∧ (expireRestore s).tables = s.tables ∧ (expireRestore s).image = s.image ∧
    (expireRestore s).links = s.links ∧ (expireRestore s).pool = s.pool ∧ (expireRestore s).uplink = s.uplink ∧
    (expireRestore s).share = s.share ∧ (expireRestore s).power = s.power ∧ (expireRestore s).notes = s.notes ∧
    (expireRestore s).pending = s.pending := by simp only [expireRestore]; (repeat' split) <;> simp [*]
@[simp] theorem expireRetry_frame  (s : State) : (expireRetry s).stage = s.stage ∧ (expireRetry s).pins = s.pins ∧
    (expireRetry s).time = s.time ∧ (expireRetry s).tables = s.tables ∧ (expireRetry s).image = s.image ∧
    (expireRetry s).lines = s.lines ∧ (expireRetry s).links = s.links ∧ (expireRetry s).pool = s.pool ∧
    (expireRetry s).uplink = s.uplink ∧ (expireRetry s).share = s.share ∧ (expireRetry s).power = s.power ∧
    (expireRetry s).results = s.results ∧ (expireRetry s).mgmt = s.mgmt ∧ (expireRetry s).notes = s.notes ∧
    (expireRetry s).out = s.out ∧ (expireRetry s).pending = s.pending :=
    by simp only [expireRetry]; (repeat' split) <;> simp [*]
@[simp] theorem serviceFields_frame (l : LineNo) (o n : ServiceEntry) (s : State) : (serviceFields l o n s).stage = s.stage ∧
    (serviceFields l o n s).pins = s.pins ∧ (serviceFields l o n s).time = s.time ∧ (serviceFields l o n s).tables = s.tables ∧
    (serviceFields l o n s).image = s.image ∧ (serviceFields l o n s).links = s.links ∧ (serviceFields l o n s).pool = s.pool ∧
    (serviceFields l o n s).uplink = s.uplink ∧ (serviceFields l o n s).test = s.test ∧
    (serviceFields l o n s).results = s.results ∧ (serviceFields l o n s).mgmt = s.mgmt ∧
    (serviceFields l o n s).notes = s.notes ∧ (serviceFields l o n s).out = s.out ∧
    (serviceFields l o n s).pending = s.pending := by simp only [serviceFields]; (repeat' split) <;> simp [*]
@[simp] theorem serviceBorrow_frame (o n : ServiceEntry) (s : State) : (serviceBorrow o n s).stage = s.stage ∧
    (serviceBorrow o n s).pins = s.pins ∧ (serviceBorrow o n s).time = s.time ∧ (serviceBorrow o n s).tables = s.tables ∧
    (serviceBorrow o n s).image = s.image ∧ (serviceBorrow o n s).links = s.links ∧ (serviceBorrow o n s).pool = s.pool ∧
    (serviceBorrow o n s).share = s.share ∧ (serviceBorrow o n s).power = s.power ∧ (serviceBorrow o n s).test = s.test ∧
    (serviceBorrow o n s).results = s.results ∧ (serviceBorrow o n s).mgmt = s.mgmt ∧
    (serviceBorrow o n s).notes = s.notes ∧ (serviceBorrow o n s).out = s.out ∧
    (serviceBorrow o n s).pending = s.pending := by simp only [serviceBorrow]; split <;> simp
@[simp] theorem serviceEnabled_frame (l : LineNo) (o n : ServiceEntry) (s : State) : (serviceEnabled l o n s).stage = s.stage ∧
    (serviceEnabled l o n s).pins = s.pins ∧ (serviceEnabled l o n s).time = s.time ∧
    (serviceEnabled l o n s).tables = s.tables ∧ (serviceEnabled l o n s).image = s.image ∧
    (serviceEnabled l o n s).links = s.links ∧ (serviceEnabled l o n s).pending = s.pending :=
    by simp only [serviceEnabled]; (repeat' split) <;> simp [*]
@[simp] theorem serviceAllowed_frame (l : LineNo) (o n : ServiceEntry) (s : State) : (serviceAllowed l o n s).stage = s.stage ∧
    (serviceAllowed l o n s).pins = s.pins ∧ (serviceAllowed l o n s).time = s.time ∧
    (serviceAllowed l o n s).tables = s.tables ∧ (serviceAllowed l o n s).image = s.image ∧
    (serviceAllowed l o n s).links = s.links ∧ (serviceAllowed l o n s).results = s.results ∧
    (serviceAllowed l o n s).pending = s.pending := by simp only [serviceAllowed]; (repeat' split) <;> simp [*]
@[simp] theorem storeService_frame (l : LineNo) (n : ServiceEntry) (s : State) : (storeService l n s).stage = s.stage ∧
    (storeService l n s).pins = s.pins ∧ (storeService l n s).time = s.time ∧ (storeService l n s).image = s.image ∧
    (storeService l n s).links = s.links ∧ (storeService l n s).pending = s.pending := by simp [storeService]
@[simp] theorem clearNeeds_frame  (s : State) : (clearNeeds s).stage = s.stage ∧ (clearNeeds s).pins = s.pins ∧
    (clearNeeds s).time = s.time ∧ (clearNeeds s).tables = s.tables ∧ (clearNeeds s).image = s.image ∧
    (clearNeeds s).lines = s.lines ∧ (clearNeeds s).links = s.links ∧ (clearNeeds s).pool = s.pool ∧
    (clearNeeds s).uplink = s.uplink ∧ (clearNeeds s).share = s.share ∧ (clearNeeds s).test = s.test ∧
    (clearNeeds s).results = s.results ∧ (clearNeeds s).mgmt = s.mgmt ∧ (clearNeeds s).out = s.out ∧
    (clearNeeds s).pending = s.pending := by simp only [clearNeeds]; (repeat' split) <;> simp [*]
@[simp] theorem storeProfile_frame (p : ProfileNo) (n : Profile) (s : State) : (storeProfile p n s).stage = s.stage ∧
    (storeProfile p n s).pins = s.pins ∧ (storeProfile p n s).time = s.time ∧ (storeProfile p n s).image = s.image ∧
    (storeProfile p n s).links = s.links ∧ (storeProfile p n s).results = s.results ∧
    (storeProfile p n s).pending = s.pending := by simp [storeProfile, apply_ite State.stage, apply_ite State.pins,
    apply_ite State.time, apply_ite State.image, apply_ite State.links, apply_ite State.results, apply_ite State.pending,
    forLines_stage, forLines_pins, forLines_time, forLines_image, forLines_links, forLines_results, forLines_pending]
@[simp] theorem storePageMs_frame (n : Nat) (s : State) : (storePageMs n s).stage = s.stage ∧ (storePageMs n s).pins = s.pins ∧
    (storePageMs n s).time = s.time ∧ (storePageMs n s).image = s.image ∧ (storePageMs n s).lines = s.lines ∧
    (storePageMs n s).links = s.links ∧ (storePageMs n s).pool = s.pool ∧ (storePageMs n s).uplink = s.uplink ∧
    (storePageMs n s).share = s.share ∧ (storePageMs n s).power = s.power ∧ (storePageMs n s).test = s.test ∧
    (storePageMs n s).results = s.results ∧ (storePageMs n s).mgmt = s.mgmt ∧ (storePageMs n s).notes = s.notes ∧
    (storePageMs n s).out = s.out ∧ (storePageMs n s).pending = s.pending := by simp [storePageMs]
@[simp] theorem storeUplinkSettings_frame (n : UplinkSettings) (s : State) : (storeUplinkSettings n s).stage = s.stage ∧
    (storeUplinkSettings n s).pins = s.pins ∧ (storeUplinkSettings n s).time = s.time ∧
    (storeUplinkSettings n s).image = s.image ∧ (storeUplinkSettings n s).lines = s.lines ∧
    (storeUplinkSettings n s).links = s.links ∧ (storeUplinkSettings n s).pool = s.pool ∧
    (storeUplinkSettings n s).power = s.power ∧ (storeUplinkSettings n s).test = s.test ∧
    (storeUplinkSettings n s).results = s.results ∧ (storeUplinkSettings n s).notes = s.notes ∧
    (storeUplinkSettings n s).out = s.out ∧ (storeUplinkSettings n s).pending = s.pending :=
    by simp only [storeUplinkSettings]; (repeat' split) <;> simp [*]
@[simp] theorem recost_frame (o n : PowerTable) (s : State) : (recost o n s).stage = s.stage ∧ (recost o n s).pins = s.pins ∧
    (recost o n s).time = s.time ∧ (recost o n s).tables = s.tables ∧ (recost o n s).image = s.image ∧
    (recost o n s).links = s.links ∧ (recost o n s).pool = s.pool ∧ (recost o n s).uplink = s.uplink ∧
    (recost o n s).share = s.share ∧ (recost o n s).power = s.power ∧ (recost o n s).test = s.test ∧
    (recost o n s).results = s.results ∧ (recost o n s).mgmt = s.mgmt ∧ (recost o n s).out = s.out ∧
    (recost o n s).pending = s.pending := by simp [recost, apply_ite State.stage, apply_ite State.pins, apply_ite State.time,
    apply_ite State.tables, apply_ite State.image, apply_ite State.links, apply_ite State.pool, apply_ite State.uplink,
    apply_ite State.share, apply_ite State.power, apply_ite State.test, apply_ite State.results, apply_ite State.mgmt,
    apply_ite State.out, apply_ite State.pending, forLines_stage, forLines_pins, forLines_time, forLines_tables, forLines_image,
    forLines_links, forLines_pool, forLines_uplink, forLines_share, forLines_power, forLines_test, forLines_results,
    forLines_mgmt, forLines_out, forLines_pending]
@[simp] theorem storeTest_frame (n : TestTable) (s : State) : (storeTest n s).stage = s.stage ∧ (storeTest n s).pins = s.pins ∧
    (storeTest n s).time = s.time ∧ (storeTest n s).image = s.image ∧ (storeTest n s).lines = s.lines ∧
    (storeTest n s).links = s.links ∧ (storeTest n s).pool = s.pool ∧ (storeTest n s).uplink = s.uplink ∧
    (storeTest n s).share = s.share ∧ (storeTest n s).power = s.power ∧ (storeTest n s).test = s.test ∧
    (storeTest n s).results = s.results ∧ (storeTest n s).mgmt = s.mgmt ∧ (storeTest n s).notes = s.notes ∧
    (storeTest n s).out = s.out ∧ (storeTest n s).pending = s.pending := by simp [storeTest]
@[simp] theorem storeTimeSettings_frame (n : TimeSettings) (s : State) : (storeTimeSettings n s).stage = s.stage ∧
    (storeTimeSettings n s).pins = s.pins ∧ (storeTimeSettings n s).image = s.image ∧ (storeTimeSettings n s).lines = s.lines ∧
    (storeTimeSettings n s).links = s.links ∧ (storeTimeSettings n s).pool = s.pool ∧
    (storeTimeSettings n s).uplink = s.uplink ∧ (storeTimeSettings n s).share = s.share ∧
    (storeTimeSettings n s).power = s.power ∧ (storeTimeSettings n s).test = s.test ∧
    (storeTimeSettings n s).results = s.results ∧ (storeTimeSettings n s).mgmt = s.mgmt ∧
    (storeTimeSettings n s).notes = s.notes ∧ (storeTimeSettings n s).out = s.out ∧
    (storeTimeSettings n s).pending = s.pending := by simp only [storeTimeSettings]; (repeat' split) <;> simp [*]
@[simp] theorem storeAlarm_frame (i : Fin 8) (n : Alarm) (s : State) : (storeAlarm i n s).stage = s.stage ∧
    (storeAlarm i n s).pins = s.pins ∧ (storeAlarm i n s).time = s.time ∧ (storeAlarm i n s).image = s.image ∧
    (storeAlarm i n s).lines = s.lines ∧ (storeAlarm i n s).links = s.links ∧ (storeAlarm i n s).pool = s.pool ∧
    (storeAlarm i n s).uplink = s.uplink ∧ (storeAlarm i n s).share = s.share ∧ (storeAlarm i n s).power = s.power ∧
    (storeAlarm i n s).test = s.test ∧ (storeAlarm i n s).results = s.results ∧ (storeAlarm i n s).mgmt = s.mgmt ∧
    (storeAlarm i n s).notes = s.notes ∧ (storeAlarm i n s).out = s.out ∧ (storeAlarm i n s).pending = s.pending :=
    by simp [storeAlarm]
@[simp] theorem storeEnables_frame (n : KindSet) (s : State) : (storeEnables n s).stage = s.stage ∧
    (storeEnables n s).pins = s.pins ∧ (storeEnables n s).time = s.time ∧ (storeEnables n s).image = s.image ∧
    (storeEnables n s).lines = s.lines ∧ (storeEnables n s).links = s.links ∧ (storeEnables n s).pool = s.pool ∧
    (storeEnables n s).uplink = s.uplink ∧ (storeEnables n s).share = s.share ∧ (storeEnables n s).power = s.power ∧
    (storeEnables n s).test = s.test ∧ (storeEnables n s).results = s.results ∧ (storeEnables n s).notes = s.notes ∧
    (storeEnables n s).out = s.out ∧ (storeEnables n s).pending = s.pending := by simp [storeEnables]
@[simp] theorem storeMgmt_frame (n : MgmtSettings) (s : State) : (storeMgmt n s).stage = s.stage ∧
    (storeMgmt n s).pins = s.pins ∧ (storeMgmt n s).time = s.time ∧ (storeMgmt n s).image = s.image ∧
    (storeMgmt n s).lines = s.lines ∧ (storeMgmt n s).links = s.links ∧ (storeMgmt n s).pool = s.pool ∧
    (storeMgmt n s).uplink = s.uplink ∧ (storeMgmt n s).share = s.share ∧ (storeMgmt n s).power = s.power ∧
    (storeMgmt n s).test = s.test ∧ (storeMgmt n s).results = s.results ∧ (storeMgmt n s).notes = s.notes ∧
    (storeMgmt n s).out = s.out ∧ (storeMgmt n s).pending = s.pending := by simp [storeMgmt]
@[simp] theorem clearCounters_frame (n : Nat) (s : State) : (clearCounters n s).stage = s.stage ∧
    (clearCounters n s).pins = s.pins ∧ (clearCounters n s).time = s.time ∧ (clearCounters n s).tables = s.tables ∧
    (clearCounters n s).image = s.image ∧ (clearCounters n s).links = s.links ∧ (clearCounters n s).uplink = s.uplink ∧
    (clearCounters n s).share = s.share ∧ (clearCounters n s).power = s.power ∧ (clearCounters n s).test = s.test ∧
    (clearCounters n s).results = s.results ∧ (clearCounters n s).mgmt = s.mgmt ∧ (clearCounters n s).notes = s.notes ∧
    (clearCounters n s).out = s.out ∧ (clearCounters n s).pending = s.pending :=
    by simp only [clearCounters]; (repeat' split) <;> simp [*]
@[simp] theorem unblock_frame (l : LineNo) (s : State) : (unblock l s).stage = s.stage ∧ (unblock l s).pins = s.pins ∧
    (unblock l s).time = s.time ∧ (unblock l s).tables = s.tables ∧ (unblock l s).image = s.image ∧
    (unblock l s).links = s.links ∧ (unblock l s).pool = s.pool ∧ (unblock l s).uplink = s.uplink ∧
    (unblock l s).share = s.share ∧ (unblock l s).test = s.test ∧ (unblock l s).results = s.results ∧
    (unblock l s).mgmt = s.mgmt ∧ (unblock l s).pending = s.pending := by simp only [unblock]; (repeat' split) <;> simp [*]
@[simp] theorem endHoldoff_frame  (s : State) : (endHoldoff s).stage = s.stage ∧ (endHoldoff s).pins = s.pins ∧
    (endHoldoff s).time = s.time ∧ (endHoldoff s).tables = s.tables ∧ (endHoldoff s).image = s.image ∧
    (endHoldoff s).lines = s.lines ∧ (endHoldoff s).links = s.links ∧ (endHoldoff s).pool = s.pool ∧
    (endHoldoff s).uplink = s.uplink ∧ (endHoldoff s).share = s.share ∧ (endHoldoff s).power = s.power ∧
    (endHoldoff s).test = s.test ∧ (endHoldoff s).results = s.results ∧ (endHoldoff s).notes = s.notes ∧
    (endHoldoff s).out = s.out ∧ (endHoldoff s).pending = s.pending := by simp only [endHoldoff]; (repeat' split) <;> simp [*]
@[simp] theorem nextFlashStep_frame  (s : State) : (nextFlashStep s).stage = s.stage ∧ (nextFlashStep s).pins = s.pins ∧
    (nextFlashStep s).time = s.time ∧ (nextFlashStep s).tables = s.tables ∧ (nextFlashStep s).lines = s.lines ∧
    (nextFlashStep s).links = s.links ∧ (nextFlashStep s).pool = s.pool ∧ (nextFlashStep s).uplink = s.uplink ∧
    (nextFlashStep s).share = s.share ∧ (nextFlashStep s).power = s.power ∧ (nextFlashStep s).test = s.test ∧
    (nextFlashStep s).results = s.results ∧ (nextFlashStep s).mgmt = s.mgmt ∧ (nextFlashStep s).notes = s.notes ∧
    (nextFlashStep s).pending = s.pending := by simp only [nextFlashStep]; (repeat' split) <;> simp [*]
@[simp] theorem failSave_frame  (s : State) : (failSave s).stage = s.stage ∧ (failSave s).pins = s.pins ∧
    (failSave s).time = s.time ∧ (failSave s).tables = s.tables ∧ (failSave s).lines = s.lines ∧ (failSave s).links = s.links ∧
    (failSave s).pool = s.pool ∧ (failSave s).uplink = s.uplink ∧ (failSave s).share = s.share ∧ (failSave s).power = s.power ∧
    (failSave s).test = s.test ∧ (failSave s).results = s.results ∧ (failSave s).notes = s.notes ∧ (failSave s).out = s.out ∧
    (failSave s).pending = s.pending := by simp [failSave]
@[simp] theorem endSave_frame (i : Image) (s : State) : (endSave i s).stage = s.stage ∧ (endSave i s).pins = s.pins ∧
    (endSave i s).time = s.time ∧ (endSave i s).tables = s.tables ∧ (endSave i s).lines = s.lines ∧
    (endSave i s).links = s.links ∧ (endSave i s).pool = s.pool ∧ (endSave i s).uplink = s.uplink ∧
    (endSave i s).share = s.share ∧ (endSave i s).power = s.power ∧ (endSave i s).test = s.test ∧
    (endSave i s).results = s.results ∧ (endSave i s).notes = s.notes ∧ (endSave i s).out = s.out ∧
    (endSave i s).pending = s.pending := by simp [endSave]
@[simp] theorem judgeReadback_frame (d : Bytes) (s : State) : (judgeReadback d s).stage = s.stage ∧
    (judgeReadback d s).pins = s.pins ∧ (judgeReadback d s).time = s.time ∧ (judgeReadback d s).tables = s.tables ∧
    (judgeReadback d s).lines = s.lines ∧ (judgeReadback d s).links = s.links ∧ (judgeReadback d s).pool = s.pool ∧
    (judgeReadback d s).uplink = s.uplink ∧ (judgeReadback d s).share = s.share ∧ (judgeReadback d s).power = s.power ∧
    (judgeReadback d s).test = s.test ∧ (judgeReadback d s).results = s.results ∧ (judgeReadback d s).notes = s.notes ∧
    (judgeReadback d s).out = s.out ∧ (judgeReadback d s).pending = s.pending :=
    by simp only [judgeReadback]; (repeat' split) <;> simp [*]
@[simp] theorem advanceTime_frame  (s : State) : (advanceTime s).stage = s.stage ∧ (advanceTime s).pins = s.pins ∧
    (advanceTime s).tables = s.tables ∧ (advanceTime s).image = s.image ∧ (advanceTime s).lines = s.lines ∧
    (advanceTime s).links = s.links ∧ (advanceTime s).pool = s.pool ∧ (advanceTime s).uplink = s.uplink ∧
    (advanceTime s).share = s.share ∧ (advanceTime s).power = s.power ∧ (advanceTime s).test = s.test ∧
    (advanceTime s).results = s.results ∧ (advanceTime s).mgmt = s.mgmt ∧ (advanceTime s).notes = s.notes ∧
    (advanceTime s).out = s.out ∧ (advanceTime s).pending = s.pending := by simp [advanceTime]
@[simp] theorem openWindow_frame  (s : State) : (openWindow s).stage = s.stage ∧ (openWindow s).pins = s.pins ∧
    (openWindow s).tables = s.tables ∧ (openWindow s).image = s.image ∧ (openWindow s).lines = s.lines ∧
    (openWindow s).links = s.links ∧ (openWindow s).pool = s.pool ∧ (openWindow s).uplink = s.uplink ∧
    (openWindow s).share = s.share ∧ (openWindow s).power = s.power ∧ (openWindow s).test = s.test ∧
    (openWindow s).results = s.results ∧ (openWindow s).mgmt = s.mgmt ∧ (openWindow s).out = s.out ∧
    (openWindow s).pending = s.pending := by simp only [openWindow]; (repeat' split) <;> simp [*]
@[simp] theorem alarmAction_frame (i : Fin 8) (a : Alarm) (s : State) : (alarmAction i a s).stage = s.stage ∧
    (alarmAction i a s).pins = s.pins ∧ (alarmAction i a s).tables = s.tables ∧ (alarmAction i a s).image = s.image ∧
    (alarmAction i a s).links = s.links ∧ (alarmAction i a s).pool = s.pool ∧ (alarmAction i a s).results = s.results ∧
    (alarmAction i a s).pending = s.pending := by simp only [alarmAction]; (repeat' split) <;> simp [apply_ite State.stage,
    apply_ite State.pins, apply_ite State.tables, apply_ite State.image, apply_ite State.links, apply_ite State.pool,
    apply_ite State.results, apply_ite State.pending, forLines_stage, forLines_pins, forLines_tables, forLines_image,
    forLines_links, forLines_pool, forLines_results, forLines_pending, *]
@[simp] theorem entryMode_frame  (s : State) : (entryMode s).stage = s.stage ∧ (entryMode s).pins = s.pins ∧
    (entryMode s).time = s.time ∧ (entryMode s).tables = s.tables ∧ (entryMode s).image = s.image ∧
    (entryMode s).lines = s.lines ∧ (entryMode s).links = s.links ∧ (entryMode s).pool = s.pool ∧
    (entryMode s).uplink = s.uplink ∧ (entryMode s).share = s.share ∧ (entryMode s).test = s.test ∧
    (entryMode s).results = s.results ∧ (entryMode s).notes = s.notes ∧ (entryMode s).out = s.out ∧
    (entryMode s).pending = s.pending := by simp [entryMode]
@[simp] theorem entryTests_frame  (s : State) : (entryTests s).stage = s.stage ∧ (entryTests s).pins = s.pins ∧
    (entryTests s).time = s.time ∧ (entryTests s).tables = s.tables ∧ (entryTests s).image = s.image ∧
    (entryTests s).lines = s.lines ∧ (entryTests s).links = s.links ∧ (entryTests s).pool = s.pool ∧
    (entryTests s).uplink = s.uplink ∧ (entryTests s).share = s.share ∧ (entryTests s).results = s.results ∧
    (entryTests s).pending = s.pending := by simp [entryTests]
@[simp] theorem entryLines_frame  (s : State) : (entryLines s).stage = s.stage ∧ (entryLines s).pins = s.pins ∧
    (entryLines s).time = s.time ∧ (entryLines s).tables = s.tables ∧ (entryLines s).image = s.image ∧
    (entryLines s).links = s.links ∧ (entryLines s).test = s.test ∧ (entryLines s).results = s.results ∧
    (entryLines s).mgmt = s.mgmt ∧ (entryLines s).pending = s.pending := by simp [entryLines, forLines_stage, forLines_pins,
    forLines_time, forLines_tables, forLines_image, forLines_links, forLines_test, forLines_results, forLines_mgmt,
    forLines_pending]
@[simp] theorem entryWaits_frame  (s : State) : (entryWaits s).stage = s.stage ∧ (entryWaits s).pins = s.pins ∧
    (entryWaits s).time = s.time ∧ (entryWaits s).tables = s.tables ∧ (entryWaits s).image = s.image ∧
    (entryWaits s).lines = s.lines ∧ (entryWaits s).links = s.links ∧ (entryWaits s).pool = s.pool ∧
    (entryWaits s).uplink = s.uplink ∧ (entryWaits s).share = s.share ∧ (entryWaits s).test = s.test ∧
    (entryWaits s).results = s.results ∧ (entryWaits s).mgmt = s.mgmt ∧ (entryWaits s).notes = s.notes ∧
    (entryWaits s).out = s.out ∧ (entryWaits s).pending = s.pending := by simp [entryWaits]
@[simp] theorem entryTerminal_frame  (s : State) : (entryTerminal s).stage = s.stage ∧ (entryTerminal s).pins = s.pins ∧
    (entryTerminal s).tables = s.tables ∧ (entryTerminal s).image = s.image ∧ (entryTerminal s).lines = s.lines ∧
    (entryTerminal s).links = s.links ∧ (entryTerminal s).pool = s.pool ∧ (entryTerminal s).share = s.share ∧
    (entryTerminal s).power = s.power ∧ (entryTerminal s).test = s.test ∧ (entryTerminal s).results = s.results ∧
    (entryTerminal s).mgmt = s.mgmt ∧ (entryTerminal s).notes = s.notes ∧ (entryTerminal s).pending = s.pending :=
    by simp [entryTerminal]
@[simp] theorem entryShare_frame  (s : State) : (entryShare s).stage = s.stage ∧ (entryShare s).pins = s.pins ∧
    (entryShare s).time = s.time ∧ (entryShare s).tables = s.tables ∧ (entryShare s).image = s.image ∧
    (entryShare s).links = s.links ∧ (entryShare s).pool = s.pool ∧ (entryShare s).uplink = s.uplink ∧
    (entryShare s).power = s.power ∧ (entryShare s).test = s.test ∧ (entryShare s).results = s.results ∧
    (entryShare s).mgmt = s.mgmt ∧ (entryShare s).notes = s.notes ∧ (entryShare s).out = s.out ∧
    (entryShare s).pending = s.pending := by simp [entryShare]
@[simp] theorem entryControl_frame  (s : State) : (entryControl s).stage = s.stage ∧ (entryControl s).pins = s.pins ∧
    (entryControl s).time = s.time ∧ (entryControl s).tables = s.tables ∧ (entryControl s).image = s.image ∧
    (entryControl s).lines = s.lines ∧ (entryControl s).links = s.links ∧ (entryControl s).pool = s.pool ∧
    (entryControl s).share = s.share ∧ (entryControl s).power = s.power ∧ (entryControl s).test = s.test ∧
    (entryControl s).results = s.results ∧ (entryControl s).mgmt = s.mgmt ∧ (entryControl s).out = s.out ∧
    (entryControl s).pending = s.pending := by simp [entryControl]
@[simp] theorem entryNotification_frame  (s : State) : (entryNotification s).stage = s.stage ∧
    (entryNotification s).pins = s.pins ∧ (entryNotification s).time = s.time ∧ (entryNotification s).tables = s.tables ∧
    (entryNotification s).image = s.image ∧ (entryNotification s).lines = s.lines ∧ (entryNotification s).links = s.links ∧
    (entryNotification s).pool = s.pool ∧ (entryNotification s).uplink = s.uplink ∧ (entryNotification s).share = s.share ∧
    (entryNotification s).power = s.power ∧ (entryNotification s).test = s.test ∧ (entryNotification s).results = s.results ∧
    (entryNotification s).notes = s.notes ∧ (entryNotification s).out = s.out ∧ (entryNotification s).pending = s.pending :=
    by simp only [entryNotification]; (repeat' split) <;> simp [*]
@[simp] theorem entryRequests_frame  (s : State) : (entryRequests s).stage = s.stage ∧ (entryRequests s).pins = s.pins ∧
    (entryRequests s).time = s.time ∧ (entryRequests s).tables = s.tables ∧ (entryRequests s).image = s.image ∧
    (entryRequests s).lines = s.lines ∧ (entryRequests s).links = s.links ∧ (entryRequests s).pool = s.pool ∧
    (entryRequests s).uplink = s.uplink ∧ (entryRequests s).share = s.share ∧ (entryRequests s).power = s.power ∧
    (entryRequests s).test = s.test ∧ (entryRequests s).results = s.results ∧ (entryRequests s).notes = s.notes ∧
    (entryRequests s).out = s.out ∧ (entryRequests s).pending = s.pending := by simp [entryRequests]
@[simp] theorem entryLatches_frame  (s : State) : (entryLatches s).stage = s.stage ∧ (entryLatches s).pins = s.pins ∧
    (entryLatches s).time = s.time ∧ (entryLatches s).tables = s.tables ∧ (entryLatches s).image = s.image ∧
    (entryLatches s).lines = s.lines ∧ (entryLatches s).links = s.links ∧ (entryLatches s).pool = s.pool ∧
    (entryLatches s).uplink = s.uplink ∧ (entryLatches s).share = s.share ∧ (entryLatches s).test = s.test ∧
    (entryLatches s).results = s.results ∧ (entryLatches s).mgmt = s.mgmt ∧ (entryLatches s).notes = s.notes ∧
    (entryLatches s).out = s.out ∧ (entryLatches s).pending = s.pending := by simp [entryLatches]
@[simp] theorem dormantEntry_frame  (s : State) : (dormantEntry s).stage = s.stage ∧ (dormantEntry s).pins = s.pins ∧
    (dormantEntry s).tables = s.tables ∧ (dormantEntry s).image = s.image ∧ (dormantEntry s).links = s.links ∧
    (dormantEntry s).results = s.results ∧ (dormantEntry s).pending = s.pending := by simp [dormantEntry]
@[simp] theorem automaticEntry_frame  (s : State) : (automaticEntry s).stage = s.stage ∧ (automaticEntry s).pins = s.pins ∧
    (automaticEntry s).image = s.image ∧ (automaticEntry s).links = s.links ∧ (automaticEntry s).results = s.results ∧
    (automaticEntry s).pending = s.pending := by simp [automaticEntry]
@[simp] theorem evaluateSupply_frame  (s : State) : (evaluateSupply s).stage = s.stage ∧ (evaluateSupply s).pins = s.pins ∧
    (evaluateSupply s).image = s.image ∧ (evaluateSupply s).links = s.links ∧ (evaluateSupply s).results = s.results ∧
    (evaluateSupply s).pending = s.pending := by simp only [evaluateSupply]; (repeat' split) <;> simp [*]
@[simp] theorem restartEvaluation_frame  (s : State) : (restartEvaluation s).stage = s.stage ∧
    (restartEvaluation s).pins = s.pins ∧ (restartEvaluation s).image = s.image ∧ (restartEvaluation s).links = s.links ∧
    (restartEvaluation s).results = s.results ∧ (restartEvaluation s).pending = s.pending :=
    by simp only [restartEvaluation]; (repeat' split) <;> simp [*]
@[simp] theorem settleFeed_frame  (s : State) : (settleFeed s).stage = s.stage ∧ (settleFeed s).pins = s.pins ∧
    (settleFeed s).image = s.image ∧ (settleFeed s).links = s.links ∧ (settleFeed s).results = s.results ∧
    (settleFeed s).pending = s.pending := by simp only [settleFeed]; (repeat' split) <;> simp [*]
@[simp] theorem endPoll_frame (r : Option Int) (s : State) : (endPoll r s).stage = s.stage ∧ (endPoll r s).pins = s.pins ∧
    (endPoll r s).image = s.image ∧ (endPoll r s).links = s.links ∧ (endPoll r s).results = s.results ∧
    (endPoll r s).pending = s.pending := by simp only [endPoll]; (repeat' split) <;> simp [*]
@[simp] theorem pendingEntry_frame  (s : State) : (pendingEntry s).stage = s.stage ∧ (pendingEntry s).pins = s.pins ∧
    (pendingEntry s).image = s.image ∧ (pendingEntry s).links = s.links ∧ (pendingEntry s).results = s.results ∧
    (pendingEntry s).pending = s.pending := by simp only [pendingEntry]; (repeat' split) <;> simp [*]
@[simp] theorem controlLeft_frame (r : CtlRole) (b : Bool) (s : State) : (controlLeft r b s).stage = s.stage ∧
    (controlLeft r b s).pins = s.pins ∧ (controlLeft r b s).image = s.image ∧ (controlLeft r b s).links = s.links ∧
    (controlLeft r b s).results = s.results ∧ (controlLeft r b s).pending = s.pending :=
    by simp only [controlLeft]; (repeat' split) <;> simp [*]
@[simp] theorem endTransmission_frame  (s : State) : (endTransmission s).stage = s.stage ∧ (endTransmission s).pins = s.pins ∧
    (endTransmission s).image = s.image ∧ (endTransmission s).links = s.links ∧ (endTransmission s).results = s.results ∧
    (endTransmission s).pending = s.pending := by simp only [endTransmission]; (repeat' split) <;> simp [*]
@[simp] theorem abandonTransmission_frame  (s : State) : (abandonTransmission s).stage = s.stage ∧
    (abandonTransmission s).pins = s.pins ∧ (abandonTransmission s).image = s.image ∧ (abandonTransmission s).links = s.links ∧
    (abandonTransmission s).results = s.results ∧ (abandonTransmission s).pending = s.pending :=
    by simp only [abandonTransmission]; (repeat' split) <;> simp [*]
@[simp] theorem linkDown_frame  (s : State) : (linkDown s).stage = s.stage ∧ (linkDown s).pins = s.pins ∧
    (linkDown s).image = s.image ∧ (linkDown s).links = s.links ∧ (linkDown s).results = s.results ∧
    (linkDown s).pending = s.pending := by simp only [linkDown]; (repeat' split) <;> simp [*]
@[simp] theorem storePower_frame (n : PowerTable) (s : State) : (storePower n s).stage = s.stage ∧
    (storePower n s).pins = s.pins ∧ (storePower n s).image = s.image ∧ (storePower n s).links = s.links ∧
    (storePower n s).results = s.results ∧ (storePower n s).pending = s.pending :=
    by simp only [storePower]; (repeat' split) <;> simp [*]
@[simp] theorem clearReady_frame (l : LineNo) (s : State) : (clearReady l s).stage = s.stage ∧ (clearReady l s).pins = s.pins ∧
    (clearReady l s).time = s.time ∧ (clearReady l s).tables = s.tables ∧ (clearReady l s).image = s.image ∧
    (clearReady l s).links = s.links ∧ (clearReady l s).pool = s.pool ∧ (clearReady l s).uplink = s.uplink ∧
    (clearReady l s).share = s.share ∧ (clearReady l s).power = s.power ∧ (clearReady l s).test = s.test ∧
    (clearReady l s).results = s.results ∧ (clearReady l s).mgmt = s.mgmt ∧ (clearReady l s).notes = s.notes ∧
    (clearReady l s).out = s.out ∧ (clearReady l s).pending = s.pending := by simp [clearReady]
@[simp] theorem loseLink_frame (k : LinkNo) (s : State) : (loseLink k s).stage = s.stage ∧ (loseLink k s).pins = s.pins ∧
    (loseLink k s).time = s.time ∧ (loseLink k s).tables = s.tables ∧ (loseLink k s).image = s.image ∧
    (loseLink k s).results = s.results ∧ (loseLink k s).pending = s.pending := by
  simp [loseLink, State.modLink, forLines_stage, forLines_pins, forLines_time, forLines_tables, forLines_image,
    forLines_results, forLines_pending]

end Sys2Proof.Machine
end

