-- ==== Sys2Proof/Laws/Ops.lean ====
section
/-! SUPPORT. What the shared operations do, one lemma for each: the frame of a step, numbers and bytes, sets, lines and links. -/

namespace Sys2Proof.Machine

/-! ## The frame of a step -/

section
variable (s : State)
@[simp] theorem opened_stage : (opened s).stage = s.stage := rfl
@[simp] theorem opened_pins : (opened s).pins = s.pins := rfl
@[simp] theorem opened_time : (opened s).time = s.time := rfl
@[simp] theorem opened_tables : (opened s).tables = s.tables := rfl
@[simp] theorem opened_image : (opened s).image = s.image := rfl
@[simp] theorem opened_lines : (opened s).lines = s.lines := rfl
@[simp] theorem opened_links : (opened s).links = s.links := rfl
@[simp] theorem opened_pool : (opened s).pool = s.pool := rfl
@[simp] theorem opened_uplink : (opened s).uplink = s.uplink := rfl
@[simp] theorem opened_share : (opened s).share = s.share := rfl
@[simp] theorem opened_power : (opened s).power = s.power := rfl
@[simp] theorem opened_test : (opened s).test = s.test := rfl
@[simp] theorem opened_results : (opened s).results = s.results := rfl
@[simp] theorem opened_mgmt : (opened s).mgmt = s.mgmt := rfl
@[simp] theorem opened_notes : (opened s).notes = {} := rfl
@[simp] theorem opened_out : (opened s).out = [] := rfl
@[simp] theorem opened_pending : (opened s).pending = s.pending := rfl
@[simp] theorem opened_line (l : LineNo) : (opened s).line l = s.line l := rfl
@[simp] theorem opened_service (l : LineNo) : (opened s).service l = s.service l := rfl
@[simp] theorem opened_profile (p : ProfileNo) : (opened s).profile p = s.profile p := rfl
@[simp] theorem opened_dormant : (opened s).dormant = s.dormant := rfl
end

/-- A command taken while the part runs. -/
theorem onRun_run {f : State → State} {s : State} (h : s.stage = .run) : onRun f s = .next (closed (f (opened s))) := by
  simp [onRun, h]

/-- A command that comes while the part does not run changes nothing. -/
theorem onRun_not_run {f : State → State} {s : State} (h : s.stage ≠ .run) : onRun f s = .next (opened s) := by
  simp [onRun, h]

/-- With nothing noted, the end of a step has no scan and no run of the test arbiter. -/
theorem settle_quiet {s : State} (h : s.notes = {}) : settle s = s := by
  cases s; subst h; rfl

/-- The end of a step in which nothing was noted is the arbiter's choice alone. -/
theorem closed_quiet {s : State} (h : s.notes = {}) : closed s = chooseFrame s := by
  simp [closed, settle_quiet h, h]

/-- The end of a step in which no restart is due. -/
theorem closed_settle {s : State} (h : s.notes.restart = false) : closed s = chooseFrame (settle s) := by
  simp [closed, h]

/-- The end of a step in which a restart is due. -/
theorem closed_restart {s : State} (h : s.notes.restart = true) : closed s = (performRestart s).setNotes {} := by
  simp [closed, h]

/-- A scan noted, and only that. -/
theorem settle_scan {s : State} (h : s.notes = { scan := true }) (hm : mayScan s = true) :
    settle s = (runArbiter (scan (s.setNotes {}))).setNotes {} := by
  unfold settle
  rw [h, hm]
  rfl

/-! ## Numbers and bytes -/

theorem beNat_nil : beNat [] = 0 := rfl

theorem beNat_append (a b : Bytes) : beNat (a ++ b) = beNat a * 256 ^ b.length + beNat b := by
  have gen : ∀ (b : Bytes) (n : Nat), b.foldl (fun n x => n * 256 + x.toNat) n = n * 256 ^ b.length + beNat b := by
    intro b
    induction b with
    | nil => intro n; simp [beNat]
    | cons x xs ih =>
      intro n
      have e : beNat (x :: xs) = (0 * 256 + x.toNat) * 256 ^ xs.length + beNat xs := ih _
      rw [List.foldl_cons, ih, e, List.length_cons]; ring
  unfold beNat
  rw [List.foldl_append, gen]; rfl

@[simp] theorem beBytes_length (w v : Nat) : (beBytes w v).length = w := by
  induction w with
  | zero => rfl
  | succ w ih => simp [beBytes, ih]

/-- Bytes written most significant first read back as the number, within their width. -/
theorem beNat_beBytes (w v : Nat) : beNat (beBytes w v) = v % 256 ^ w := by
  induction w with
  | zero => simp [beBytes, beNat, Nat.mod_one]
  | succ w ih =>
    have h : beBytes (w + 1) v = [BitVec.ofNat 8 (v / 256 ^ w)] ++ beBytes w v := rfl
    rw [h, beNat_append, ih, beBytes_length]
    have : beNat [BitVec.ofNat 8 (v / 256 ^ w)] = v / 256 ^ w % 256 := by simp [beNat]
    rw [this, pow_succ, Nat.mod_mul]; ring

/-- A field that stands whole inside a run of bytes reads as the number it spells. -/
theorem field_middle (a m b : Bytes) : field (a ++ m ++ b) a.length m.length = beNat m := by
  simp [field]

theorem lineOf_lineNumber (l : LineNo) : lineOf (lineNumber l) = some l := by
  simp [lineOf, lineNumber]

/-- A line's number names it on the link that serves it. -/
theorem servedLine_lineNumber (l : LineNo) : servedLine (linkOf l) (lineNumber l) = some l := by
  simp [servedLine, lineOf_lineNumber]

theorem mem_single (i j : Fin n) : mem (single i) j = (i = j) := by
  simp only [mem, single, BitVec.getLsbD_twoPow]
  simp [Fin.ext_iff]

/-- A set built from a predicate has the members that satisfy it. -/
theorem mem_setOf (p : Fin n → Bool) (i : Fin n) : mem (setOf n p) i = p i := by
  have gen : ∀ (ls : List (Fin n)) (b : BitVec n),
      mem (ls.foldl (fun b i => if p i then b ||| BitVec.twoPow n i.val else b) b) i = (mem b i || (ls.contains i && p i)) := by
    intro ls
    induction ls with
    | nil => intro b; simp
    | cons x xs ih =>
      intro b
      simp only [List.foldl_cons, ih]
      by_cases hp : p x
      · by_cases hx : i = x
        · subst hx; simp [hp, mem]
        · have : i.val ≠ x.val := fun e => hx (Fin.ext e)
          simp [hp, hx, mem, this]
      · by_cases hx : i = x
        · subst hx; simp [hp]
        · simp [hp, hx]
  have := gen (List.finRange n) 0
  simpa [setOf, mem] using this

end Sys2Proof.Machine
end

