-- ==== Sys2Proof/Laws/Queue.lean ====
section
/-! SUPPORT. The queue of commands is kept by whatever a command does: by restarts, by the end of a step, by the processing of a
request, by the loop of a write, and by the effects that have no frame of their own. -/
namespace Sys2Proof.Machine

theorem coldStart_pending (p : Pins) (s : State) : (coldStart p s).pending = s.pending := rfl

theorem warmRestart_pending (p : Pins) (s : State) : (warmRestart p s).pending = s.pending := by
  simp [warmRestart, beginRun, warmValues, coldState]

theorem endLoad_pending (d : Option Bytes) (s : State) : (endLoad d s).pending = s.pending := by
  have run : ∀ t n b, (endLoad.run s t n b).pending = s.pending := by
    intro t n b
    unfold endLoad.run
    cases b <;> simp [beginRun]
  unfold endLoad
  cases d with
  | none => exact run _ _ _
  | some b =>
    simp only []
    by_cases h : imageGood b = true
    · rw [if_pos h]; exact run _ _ _
    · rw [if_neg h]; exact run _ _ _

theorem performRestart_pending (s : State) : (performRestart s).pending = s.pending := by
  unfold performRestart
  split
  · rfl
  · exact warmRestart_pending _ _
  · rfl

@[simp] theorem closed_pending (s : State) : (closed s).pending = s.pending := by
  unfold closed
  split
  · exact performRestart_pending s
  · simp

theorem onRun_answers {f : State → State} (h : ∀ s, (f s).pending = s.pending) (s : State) :
    ∃ t, onRun f s = .next t ∧ t.pending = s.pending := by
  unfold onRun
  split
  · exact ⟨_, rfl, by simp [h]⟩
  · exact ⟨_, rfl, rfl⟩

@[simp] theorem carryOut_pending {f : Bytes} {e : Bytes → State → State × Reply} (h : ∀ f s, (e f s).1.pending = s.pending) (s : State) :
    (carryOut f e s).pending = s.pending := by
  unfold carryOut
  split
  · simp
  · split
    · split <;> simp
    · simp [h]

theorem processHead_pending {k : ReqKind} {e : Bytes → State → State × Reply} (h : ∀ f s, (e f s).1.pending = s.pending) (s : State) :
    (processHead k e s).pending = s.pending := by
  unfold processHead
  split
  · rfl
  · split
    · simp only
      split <;> simp [carryOut_pending h]
    · rfl

theorem request_answers {k : ReqKind} {e : Bytes → State → State × Reply} (h : ∀ f s, (e f s).1.pending = s.pending) (s : State) :
    ∃ t, onRun (processHead k e) s = .next t ∧ t.pending = s.pending := onRun_answers (processHead_pending h) s

theorem writeLoop_pending {table : Nat} {store : StoreEntry} (h : ∀ i b s, (store i b s).1.pending = s.pending) (es : List (Nat × Bytes))
    (n : Nat) (d : Bool) (s : State) : (writeLoop table store es n d s).1.pending = s.pending := by
  induction es generalizing n d s with
  | nil => rfl
  | cons e es ih =>
    obtain ⟨i, b⟩ := e
    have := h i b s
    unfold writeLoop
    by_cases hi : insideTable table i = true
    · rw [if_pos hi]
      rcases hs : store i b s with ⟨s', _ | st⟩
      · simp only [ih]; simpa [hs] using this
      · simpa [hs] using this
    · rw [if_neg hi]; exact ih _ _ _

theorem writeTable_pending {store : StoreEntry} (h : ∀ i b s, (store i b s).1.pending = s.pending) (f : Bytes) (s : State) :
    (writeTable store f s).1.pending = s.pending := by
  unfold writeTable
  split
  · rfl
  · exact writeLoop_pending h _ _ _ _

theorem storeAt_pending {n first : Nat} {store : Fin n → Bytes → State → State} (h : ∀ i b s, (store i b s).pending = s.pending)
    (i : Nat) (b : Bytes) (s : State) : (storeAt n first store i b s).1.pending = s.pending := by
  unfold storeAt
  split <;> simp [h]

theorem onLine_pending {f : Bytes} {act : LineNo → State × Reply} {s : State} (h : ∀ l, (act l).1.pending = s.pending) :
    (onLine f s act).1.pending = s.pending := by
  unfold onLine
  split <;> simp [h]

theorem lineMessage_pending {k : LinkNo} {n : Nat} {act : LineNo → State → State} (h : ∀ l s, (act l s).pending = s.pending)
    (s : State) : (lineMessage k n act s).pending = s.pending := by
  unfold lineMessage
  split <;> simp [h]

theorem judgeAlarms_pending (s : State) : (judgeAlarms s).pending = s.pending := by
  unfold judgeAlarms
  have one : ∀ (s : State) (i : Fin 8), (judgeAlarm s i).pending = s.pending := by
    intro s i
    unfold judgeAlarm
    simp only
    split <;> simp
  generalize List.finRange 8 = is
  induction is generalizing s with
  | nil => rfl
  | cons i is ih => simp [ih, one]

theorem foldl_pending {α : Type} {f : State → α → State} (h : ∀ s a, (f s a).pending = s.pending) (as : List α) (s : State) :
    (as.foldl f s).pending = s.pending := by
  induction as generalizing s with
  | nil => rfl
  | cons a as ih => simp [ih, h]

theorem requestTest_pending (f : Bytes) (s : State) : (requestTest f s).1.pending = s.pending := onLine_pending fun l => by simp

theorem cancelTest_pending (f : Bytes) (s : State) : (cancelTest f s).1.pending = s.pending :=
  onLine_pending fun l => by (repeat' split) <;> simp

theorem unblockLine_pending (f : Bytes) (s : State) : (unblockLine f s).1.pending = s.pending :=
  onLine_pending fun l => by
    split
    · rfl
    · split
      · split
        · unfold retryRelease; split <;> simp
        · rfl
      · simp

theorem forceRetrain_pending (f : Bytes) (s : State) : (forceRetrain f s).1.pending = s.pending :=
  onLine_pending fun l => by split <;> simp; split <;> simp

theorem enterDormant_pending (f : Bytes) (s : State) : (enterDormant f s).1.pending = s.pending := by
  unfold enterDormant; (repeat' split) <;> simp

theorem requestRestart_pending (f : Bytes) (s : State) : (requestRestart f s).1.pending = s.pending := by
  unfold requestRestart; split <;> simp

theorem saveImage_pending (f : Bytes) (s : State) : (saveImage f s).1.pending = s.pending := by
  unfold saveImage; split <;> simp

end Sys2Proof.Machine
end

