-- ==== Sys2Proof/Tests/Slice0.lean ====
section
/-! SUPPORT. The model's own tests: ill-formed commands that WellFormed refuses, worked examples of the manual, at most two steps for a
command, and for each statement of Certificates/Slice0 a witness: states and operands that meet its hypotheses. -/

namespace Sys2Proof.Tests
open Sys2Proof.Machine Sys2Proof.Claims

-- One theorem is elaborated at a time, which bounds the memory that the kernel evaluations take together.
set_option Elab.async false

/-! ## The states the tests start from -/

def entry : ServiceEntry := { enabled := true, upTag := 100, allowed := 0xFFFF, burst := 20000, shedClass := 1 }
def rates : Profile :=
  { valid := true, downKbps := 5000, upKbps := 1000, trickleKbps := 64, reach := 5000, maxAtten := 600, activeMw := 1400, idleMw := 400
    idleAllowed := true }
def supply : PowerTable :=
  { budgetNormal := 12000, budgetHoldup := 8000, budgetReserve := 3000, listenMw := 100, trainMw := 600, energyThreshold := 10
    wakeOnButton := true }

/-- The part runs in NORMAL with its uplink UP, every line enabled and PARKED, and profile 3 valid. -/
def base : State :=
  { State.reset with
    stage := .run
    out := []
    tables := { service := Vector.replicate 48 entry, profiles := (Vector.replicate 16 {}).set 3 rates, power := supply
                test := { testMw := 500 }, mgmt := { mgmtAddress := 0x02D7C4800005, stationAddress := 0x020000000001 } }
    lines := Vector.replicate 48 { state := .parked }
    uplink := { up := true, reported := 20000, effective := 18000, basis := 18000 }
    power := { settled := true, mode := .normal, awaiting := false } }

/-- Line 7, on link 0. -/
def seven : LineNo := 6
def link0 : LinkNo := 0

/-- The base state with line 7 as given. -/
def having (x : Line) : State := withLine base seven x

def listening : Line := { state := .listening, cost := 100, mode := .listen, failures := 2 }
def active : Line :=
  { state := .active, running := some 3, ability := 8, powerSave := true, cost := 1400, ceiling := 1000, allocation := 500
    credit := 16000, mode := .run 3 5000 1000, idle := .running 5 }
def idleLow : Line := { active with state := .idleLow, cost := 400, ceiling := 64, mode := .trickle 3 64, idle := .stopped }

/-- The exchange of a line that has advertised profile 3 and awaits the modem's BASE page. -/
def exchange : Exchange :=
  { lastPage := ⟨0x20, 0, 8, 1, 0, 0⟩, limit := 500, partMore := true, advertised := 8, lineId := 70007 }
def training (x : Exchange) : Line :=
  { state := .training, cost := 600, mode := .train, exchange := some x, ability := 8, powerSave := true }

/-- A frame of a length, the type field being the subscriber tag type with a tag. -/
def frame (length tag : Nat) : Bytes :=
  List.replicate 12 0x11 ++ [0x9A, 0x30] ++ beBytes 2 tag ++ List.replicate (length - 16) 0x22
/-- A frame as a line sends it. -/
def plain (length : Nat) : Bytes := List.replicate length 0x33

/-- The state a command leaves; every command leaves one. -/
def after (c : Instr) (s : State) : State :=
  match exec c s with
  | .next t => t
  | .fault _ => s
  | .refused _ => s

/-! ## WellFormed: an ill-formed command for each check -/

theorem test_wf_refuses_lines : Instr.wellFormed (.energyReport 0 0 5) = false ∧ Instr.wellFormed (.losReport 0 49) = false ∧
    Instr.wellFormed (.pageRx 0 0 default) = false ∧ Instr.wellFormed (.frameUp 0 49 [] false) = false ∧
    Instr.wellFormed (.ready 0 0 1) = false ∧ Instr.wellFormed (.connectConfirm 0) = false ∧
    Instr.wellFormed (.measurementResult 49 (.cap 1)) = false ∧ Instr.wellFormed (.releaseConfirm 0) = false := by decide
theorem test_wf_refuses_level : Instr.wellFormed (.energyReport 0 7 256) = false := by decide
theorem test_wf_refuses_count : Instr.wellFormed (.ready 0 7 5) = false := by decide
theorem test_wf_refuses_image : Instr.wellFormed (.imageLoadDone []) = false ∧ Instr.wellFormed (.saveReadbackDone [1]) = false := by
  decide
theorem test_wf_refuses_frames : Instr.wellFormed (.rateReport [1]) = false ∧ Instr.wellFormed (.hold []) = false ∧
    Instr.wellFormed (.requestArrival [1, 2]) = false := by decide
theorem test_wf_accepts : Instr.wellFormed (.energyReport 0 48 255) = true ∧ Instr.wellFormed (.ready 5 1 4) = true := by decide

/-! ## Decode: the table gives its rows no bits, so no word spells a command -/

theorem test_decode_none : decodeTableWord 8 0 = none ∧ decodeTableWord 16 0x9A31 = none := by decide

/-! ## Worked examples of the manual -/

/-- R186: the CRC-16 of "123456789". -/
theorem test_crc_check_value : crc16 [0x31, 0x32, 0x33, 0x34, 0x35, 0x36, 0x37, 0x38, 0x39] = 0x29B1#16 := by decide +kernel

/-- Section 4.7: the five lines of the worked case. -/
def five : List ShareInput := [⟨0, 4, 10000, 60000⟩, ⟨1, 2, 5000, 12000⟩, ⟨2, 2, 5000, 60000⟩, ⟨3, 1, 0, 60000⟩, ⟨4, 1, 20000, 25000⟩]
theorem test_share_case : (computeShare five 100000).amounts.map Prod.snd = [37428, 12000, 18714, 6857, 25000] ∧
    (computeShare five 100000).spare = 1 ∧ (computeShare five 100000).oversubscribed = false := by decide +kernel
theorem test_share_oversubscribed : (computeShare five 30000).amounts.map Prod.snd = [7500, 3750, 3750, 0, 15000] ∧
    (computeShare five 30000).spare = 0 ∧ (computeShare five 30000).oversubscribed = true := by decide +kernel
/-- Section 4.8: reshare A, with the departed line still counted. -/
theorem test_share_departure : (computeShare five 80000).amounts.map Prod.snd = [26500, 12000, 13250, 4125, 24125] := by decide +kernel
/-- R163: the fourth millisecond of 19 440.25 kHz is long. -/
theorem test_long_millisecond :
    let s := { base with tables := { base.tables with time := { localKhz := 19440, localFrac := 16384 } }, time := { phase := 49152 } }
    (startMillisecond s).time.phase = 0 ∧ (startMillisecond s).time.msLength = 19441 := by decide +kernel
/-- Section 9.9: entry 0 of the example after the jump. -/
theorem test_alarm_jump :
    (firedAlarm { enabled := true, time := 93600000, periodMs := 86400000 } 100000001).time = 180000000 ∧
    (firedAlarm { enabled := true, time := 14400000, periodMs := 86400000 } 100000001).time = 100800000 := by decide +kernel
/-- Section 2.8: the part's BASE page of the example, profiles 5, 8 and 11, power-save and more. -/
theorem test_base_page : basePage 0x0920 true true = ⟨0x20, 0x09, 0x20, 1, 0, 0⟩ := by decide +kernel
/-- Section 2.8: line_id 70 007 in the LINE_ID page of step 1. -/
theorem test_line_id_page : lineIdPage 1 70007 = ⟨0x11, 3, 0, 1, 0x11, 0x77⟩ := by decide +kernel
/-- R9: the backoffs of the first failures, and the longest. -/
theorem test_backoffs : backoffFor 1 = 1000 ∧ backoffFor 2 = 2000 ∧ backoffFor 7 = 64000 ∧ backoffFor 255 = 64000 := by decide +kernel
/-- R105: the thresholds are repaired in the order cutoff, reserve, recover. -/
theorem test_thresholds_repaired : let p := PowerTable.normal { cutoffMv := 200000, reserveMv := 5, recoverMv := 7 }
    p.cutoffMv = 99999 ∧ p.reserveMv = 100000 ∧ p.recoverMv = 100000 := by decide +kernel
/-! ## One step of a command -/

def line7 (c : Instr) (x : Line) : Line := (after c (having x)).line seven

theorem test_errored_frame : (line7 (.frameUp 0 7 (plain 64) true) active).counters.crcErr = 1 := by decide +kernel
theorem test_frame_up : (line7 (.frameUp 0 7 (plain 64) false) active).counters.framesUp = 1 ∧
    (line7 (.frameUp 0 7 (plain 63) false) active).counters.dropsUp = 1 := by decide +kernel
theorem test_frame_up_other_link : line7 (.frameUp 1 7 (plain 64) false) active = active := by decide +kernel
theorem test_energy_trains : (line7 (.energyReport 0 7 10) listening).state = .training ∧
    (line7 (.energyReport 0 7 9) listening).state = .listening := by decide +kernel
theorem test_los : (line7 (.losReport 0 7) active).state = .listening ∧ (line7 (.losReport 0 7) active).counters.los = 1 := by
  decide +kernel
theorem test_los_in_training : (line7 (.losReport 0 7) (training exchange)).failures = 1 ∧
    (line7 (.losReport 0 7) (training exchange)).backoff = 1000 := by decide +kernel
theorem test_ready : (line7 (.ready 0 7 4) { active with dnq := [⟨plain 80, none⟩] }).ready = 3 := by decide +kernel
theorem test_page_base : ((line7 (.pageRx 0 7 ⟨0x20, 0, 8, 1, 0, 0⟩) (training exchange)).exchange.map (·.lastPage)) =
    some ⟨0x11, 3, 0, 1, 0x11, 0x77⟩ := by decide +kernel
theorem test_page_timeout : (line7 (.pageTimeout 6) (training { exchange with timer := 500, resends := 3 })).failures = 1 := by
  decide +kernel
theorem test_idle_expiry : (line7 (.idleExpiry 6) { active with idle := .expired }).state = .idleLow := by decide +kernel
theorem test_rate_report :
    (after (.rateReport (terminalFrame 1 2 1 (beBytes 4 50000))) base).uplink.effective = 45000 ∧
    (after (.rateReport (terminalFrame 1 2 1 (beBytes 4 20500))) base).uplink.basis = 18000 := by decide +kernel
theorem test_hold_clamped : (after (.hold (terminalFrame 1 2 2 (beBytes 2 5000))) base).uplink.hold = 1000 := by decide +kernel
theorem test_link_down : (after .uplinkLinkDown base).uplink.basis = 0 := by decide +kernel
theorem test_unknown_tag : (after (.downstreamFrame (frame 68 101)) base).pool.unknownTag = 1 ∧
    (after (.downstreamFrame (frame 67 101)) base).pool.undersize = 1 := by decide +kernel
theorem test_button : (after .buttonPress { base with power := { base.power with mode := .dormant } }).power.mode = .normal := by
  decide +kernel
theorem test_poll_fails_thrice :
    (after (.pollResult none) { base with power := { base.power with polling := true, failures := 2, sample := some 5 } }).power.sample =
      none := by decide +kernel
theorem test_tick_backoff : (line7 (.millisecondTick true) { listening with backoff := 1 }).backoff = 0 := by decide +kernel
theorem test_warm_restart_unblocks : (line7 (.warmRestart true) { state := .blocked, loopLength := some 900 }).state = .parked ∧
    (line7 (.warmRestart true) { state := .blocked, loopLength := some 900 }).loopLength = some 900 := by decide +kernel
theorem test_late_image_starts_empty : (after .imageReadTimeout (after (.coldStart 9 true) base)).tables.mgmt.mgmtAddress = 0x02D7C4800009 := by
  decide +kernel

/-! ## Requests -/

def header : Header := { dest := 0x02D7C4800005, src := 0x020000000001, tag := 0x1234, table := 0, first := 0, count := 0 }
/-- The base state with a request at the head of the queue, and another behind it. -/
def asked (s : State) (h : Header) (code : Nat) (payload : Bytes) : State :=
  { s with mgmt := { s.mgmt with requests := [request h code payload, [1]] } }
/-- The status that the response to a request carries. -/
def statusOf (s : State) : Option Byte := s.uplink.control.getLast?.bind fun c => c.data[17]?

/-- R99: a write that sets borrow is a moment of the choice, which comes before the response is queued. -/
theorem test_write_sets_borrow :
    let s := having { active with credit := 0, upq := [⟨plain 80, some 100⟩] }
    let t := after .writeService (asked s { header with table := 1, first := 7, count := 1 } 2 (serviceBytes { entry with borrow := true }))
    t.uplink.tx = some (.line seven) ∧ t.uplink.control.length = 1 := by decide +kernel
/-- Line 7 is in transmission, and line 4 has a frame that its credit covers. -/
def twoSend : State :=
  let x := { active with upq := [⟨plain 80, some 100⟩] }
  { withLine (having x) 3 x with uplink := { base.uplink with tx := some (.line seven) } }
/-- R99, R101: a request that takes the line in transmission out of service is followed by the choice, before its response is queued. -/
theorem test_force_retrain_frees_transmitter : let t := after .forceRetrain (asked twoSend header 9 [7])
    t.uplink.tx = some (.line 3) ∧ t.uplink.control.length = 1 ∧ (t.line 3).credit = 16000 - 640 := by decide +kernel
theorem test_write_disable_frees_transmitter :
    let t := after .writeService (asked twoSend { header with table := 1, first := 7, count := 1 } 2 (serviceBytes { entry with enabled := false }))
    t.uplink.tx = some (.line 3) ∧ t.uplink.control.length = 1 ∧ (t.line seven).state = .down := by decide +kernel
/-- R98, R104: a write of the thresholds that makes the DORMANT entry leaves the control queue empty. -/
theorem test_write_enters_dormant :
    let s := { base with power := { base.power with settled := false, sample := some 45000, mode := .reserve } }
    let t := after .writePowerTable (asked s { header with table := 6, count := 1 } 2 (powerBytes { supply with cutoffMv := 45500 }))
    t.power.mode = .dormant ∧ t.uplink.control = [] ∧ t.tables.power.cutoffMv = 45500 := by decide +kernel
theorem test_write_page_ms : let s := after .writeProfileSettings (asked base { header with table := 3, count := 1 } 2 (beBytes 2 99))
    s.tables.pageMs = 200 ∧ statusOf s = some 0 := by decide +kernel
theorem test_write_forwarding_refused :
    statusOf (after .writeForwarding (asked base { header with table := 4, count := 1 } 2 [1, 0, 5, 49])) = some 6 := by decide +kernel
theorem test_write_address_refused :
    statusOf (after .writeManagementSettings (asked base { header with table := 11, count := 1 } 2 (List.replicate 14 1))) = some 9 := by
  decide +kernel
theorem test_write_outside_partial :
    statusOf (after .writeAlarm (asked base { header with table := 9, first := 8, count := 1 } 2 (List.replicate 19 0))) = some 2 := by
  decide +kernel
theorem test_unknown_request : statusOf (after .unknownRequest (asked base header 14 [])) = some 4 := by decide +kernel
theorem test_read_only_table : statusOf (after .unknownRequest (asked base { header with table := 12 } 2 [])) = some 5 := by decide +kernel
theorem test_read_counters : ((after .readCounters (asked base header 3 [0, 1, 0])).uplink.control.head?.map (·.data.length)) = some 39 := by
  decide +kernel
theorem test_force_retrain_wrong_state : statusOf (after .forceRetrain (asked base header 9 [7])) = some 11 := by decide +kernel
theorem test_cancel_no_test : statusOf (after .cancelTest (asked base header 7 [7])) = some 13 := by decide +kernel
theorem test_request_test_starts : (after .requestTest (asked base header 6 [7, 2, 0])).test.bus = .prepare := by decide +kernel
theorem test_enter_dormant : (after .enterDormant (asked base header 11 [])).power.entryPending = true := by decide +kernel
theorem test_restart_cold_wins :
    (after .restart (asked { base with mgmt := { restartPending := some .cold } } header 12 [0])).mgmt.restartPending = some .cold := by
  decide +kernel
theorem test_save_image : (after .saveImage (asked base header 13 [])).image.phase = .erasing := by decide +kernel
theorem test_notification :
    (after .notificationBuild { base with mgmt := { notif := .due, pending := { part := 0x400 } } }).mgmt.notif = .queued := by
  decide +kernel

/-! ## Witnesses: states and operands that meet the hypotheses of each statement -/

def loading : State := State.reset
def held : State := { base with stage := .held }
/-- The base state with another budget for NORMAL. -/
def poor (budget : Nat) (x : Line) : State :=
  { having x with tables := { base.tables with power := { supply with budgetNormal := budget } } }
def dormantState : State := { base with power := { base.power with mode := .dormant } }

theorem witness_StepTakesFrontCommand : ∃ s : State, s.pending = .holdEnd :: [] := ⟨{ base with pending := [.holdEnd] }, rfl⟩
theorem witness_EveryCommandAnswersNext : loading.stage ≠ .run ∧ actsOutsideRun .buttonPress = false ∧ loading.stage = .load ∧
    held.stage = .held := by decide +kernel
/-- A good image of tables of zeros with management address 02-D7-C4-80-00-05. Two bytes after the header and two after the address hold
the CRC so far, so that the CRC of the whole is 0. -/
def goodImage : Bytes :=
  ([0x5A, 0x43, 0x34, 0x01, 0, 1, 0xC6, 0x35] ++ List.replicate 2937 0) ++
    (([0x02, 0xD7, 0xC4, 0x80, 0, 5, 0xC9, 0xDC] ++ List.replicate 5237 0) ++ [0, 0])
theorem crc_of_zeros (n : Nat) : (List.replicate n (0 : Byte)).foldl crcByte 0#16 = 0#16 := by
  induction n with
  | zero => rfl
  | succ n ih => rw [List.replicate_succ, List.foldl_cons, show crcByte 0#16 0 = 0#16 by decide +kernel, ih]
theorem goodImage_forwards : imageForwards goodImage = Vector.replicate 192 (readForward [0, 0, 0, 0]) := by
  apply Vector.ext
  intro i hi
  rw [Vector.getElem_replicate]
  unfold imageForwards
  rw [Vector.getElem_ofFn]
  have h : entryAt goodImage 1944 4 i = List.replicate 4 0 := by
    obtain ⟨k, hk, hk'⟩ : ∃ k, 1944 + i * 4 = 8 + k ∧ k + 4 ≤ 2937 := ⟨1936 + i * 4, by omega, by omega⟩
    unfold entryAt goodImage
    rw [hk, List.append_assoc, ← List.drop_drop, List.drop_left' (by rfl), List.drop_append_of_le_length (by rw [List.length_replicate]; omega),
      List.drop_replicate, List.take_append_of_le_length (by rw [List.length_replicate]; omega), List.take_replicate]
    congr 1; omega
  rw [h]; rfl
theorem goodImage_good : imageGood goodImage = true := by
  have hl : goodImage.length = 8192 := by unfold goodImage; simp only [List.length_append, List.length_cons, List.length_nil, List.length_replicate]
  have ht : goodImage.take 8190 = ([0x5A, 0x43, 0x34, 0x01, 0, 1, 0xC6, 0x35] ++ List.replicate 2937 0) ++
      ([0x02, 0xD7, 0xC4, 0x80, 0, 5, 0xC9, 0xDC] ++ List.replicate 5237 0) := by
    unfold goodImage; rw [← List.append_assoc]; exact List.take_left' (by simp only [List.length_append, List.length_cons, List.length_nil, List.length_replicate])
  have hc : crc16 (goodImage.take 8190) = 0#16 := by
    rw [ht]; unfold crc16; simp only [List.foldl_append]
    rw [show List.foldl crcByte 0xFFFF#16 [0x5A, 0x43, 0x34, 0x01, 0, 1, 0xC6, 0x35] = 0#16 by decide +kernel, crc_of_zeros,
      show List.foldl crcByte 0#16 [0x02, 0xD7, 0xC4, 0x80, 0, 5, 0xC9, 0xDC] = 0#16 by decide +kernel, crc_of_zeros]
  have hd : goodImage.drop 8190 = [0, 0] := by
    unfold goodImage; rw [← List.append_assoc]; exact List.drop_left' (by simp only [List.length_append, List.length_cons, List.length_nil, List.length_replicate])
  have hf : field goodImage 8190 2 = 0 := by
    unfold field; simp only [hd]; decide +kernel
  have h3 : goodImage.take 4 = formatWord := rfl
  have h4 : forwardsGood (imageForwards goodImage).toList = true := by
    rw [goodImage_forwards]
    unfold forwardsGood
    rw [List.all_eq_true]
    intro i _
    split
    · next e he =>
      have he' : e = readForward [0, 0, 0, 0] := (List.mem_replicate.mp (Vector.toList_replicate .. ▸ List.mem_of_getElem? he)).2
      rw [he']; rfl
    · rfl
  have h5 : usableAddress (readImage goodImage).tables.mgmt.mgmtAddress = true := by
    show usableAddress (readMgmt (entryAt goodImage 2945 14 0)).mgmtAddress = true
    have h : entryAt goodImage 2945 14 0 = [0x02, 0xD7, 0xC4, 0x80, 0, 5, 0xC9, 0xDC] ++ List.replicate 6 0 := by
      unfold entryAt goodImage
      rw [List.drop_left' (by simp only [List.length_append, List.length_cons, List.length_nil, List.length_replicate])]
      rfl
    rw [h]; decide +kernel
  unfold imageGood; simp [hl, hc, hf, h3, h4, h5, Config.imageBytes]
theorem witness_ImageLoadStartsThePart : loading.stage = .load ∧ imageGood goodImage = true ∧ imageGood [] = false :=
  ⟨by decide +kernel, goodImage_good, by decide +kernel⟩
theorem witness_WarmRestartKeepsAndStarts : base.stage = .run ∧ held.stage ≠ .load := by decide +kernel

theorem witness_UpstreamDrops :
    (Hears (having listening) seven ∧ (listening.state = .listening)) ∧ (Hears (having {}) seven ∧ (Line.state {} = .down)) ∧
    (Hears (having active) seven ∧ ¬ fitsUp (having active) seven (plain 63) ∧ fitsUp (having active) seven (plain 64) ∧
      fitsUp (having active) seven (plain 1532) ∧ ¬ fitsUp (having active) seven (plain 1533)) ∧
    (({ base with pool := { free := 0 } } : State).pool.free < cells ((plain 64).length + 4)) := by
  unfold Hears fitsUp; decide +kernel

theorem witness_UpstreamAccepted :
    Hears (having idleLow) seven ∧ ((having idleLow).line seven).running = some 3 ∧ fitsUp (having idleLow) seven (plain 1024) ∧
    cells ((plain 1024).length + 4) ≤ (having idleLow).pool.free ∧ waitKind (having idleLow) seven = none ∧
    supply.promoteCells < depth ((acceptedUp seven (plain 1024) (having idleLow)).line seven).upq ∧
    ¬ supply.promoteCells < depth ((acceptedUp seven (plain 1020) (having idleLow)).line seven).upq ∧
    admits 400 1400 (having idleLow) = true ∧ admits 400 1400 (poor 400 idleLow) = false := by
  unfold Hears fitsUp; decide +kernel

theorem witness_ReadyDeliversFrames : Hears (having active) seven ∧ Hears (having listening) seven ∧
    ((having active).line seven).state = .active ∧ ((having listening).line seven).state = .listening := by
  unfold Hears; decide +kernel

/-- Link 0 is LOST, line 7 being as given. -/
def lost (x : Line) : State := { having x with links := base.links.set 0 ⟨false, 100⟩ }
theorem witness_MessageReturnsLostLink :
    ((lost active).stage = .run ∧ (lost active).links[link0].up = false ∧ base.links[link0].up = true) ∧
    (7 = lineNumber seven ∧ seven.val / 8 = link0.val ∧ ((heard 0 (lost active)).line seven).inService = true ∧
      ((heard 0 (lost listening)).line seven).inService = false) ∧
    (∀ l : LineNo, 0 = lineNumber l → l.val / 8 ≠ 0) ∧ (∀ l : LineNo, 9 = lineNumber l → l.val / 8 ≠ 0) ∧
    (∀ l : LineNo, 49 = lineNumber l → l.val / 8 ≠ 5) := by decide +kernel

def silent (ms : Nat) : State := { base with links := base.links.set 0 ⟨true, ms⟩ }
theorem witness_SilenceLosesLink : (silent 100).stage = .run ∧ (silent 100).links[link0].up = true ∧
    100 ≤ (silent 100).links[link0].silence ∧ ¬ 100 ≤ (silent 99).links[link0].silence := by decide +kernel
/-- A lost link: line 7, in service or training, at 100 ms of silence with a budget. -/
def losing (budget : Nat) (x : Line) : State := { poor budget x with links := (silent 100).links }
theorem witness_SilenceLosesLink_lines : linkOf seven = link0 ∧ kindEnabled base 1 = true ∧ kindEnabled base 2 = true ∧
    (let s := losing 0 { active with cost := 50 }
     (s.line seven).inService = true ∧ s.power.mode ≠ .dormant ∧ ¬ listenGranted (atTurn s seven s) seven) ∧
    (let s := losing 0 (training exchange)
     (s.line seven).state = .training ∧ waitKind s seven = none ∧ listenGranted (atTurn s seven s) seven) := by
  unfold listenGranted; decide +kernel

/-- Two retrains within the window ask for a test; line 7 is in service with `n` counted since `t`. -/
def retraining (n : Nat) (t : Option Nat) : State :=
  { having { active with retrains := n, windowStart := t } with
    tables := { base.tables with service := Vector.replicate 48 { entry with autoRetrains := 2 } } }
theorem witness_retrainCounted : ((retraining 1 (some 0)).line seven).inService = true ∧ askedByRetrain (retraining 1 (some 0)) seven = true ∧
    askedByRetrain (retraining 0 (some 0)) seven = false ∧ windowSpent (retraining 1 none) seven = true ∧
    windowSpent (retraining 1 (some 0)) seven = false ∧ askedByRetrain (having active) seven = false := by decide +kernel

theorem witness_EnergyReportsTaken :
    (Hears (having listening) seven ∧ energyDue (having listening) seven 10 ∧ admits 100 600 (having listening) = true) ∧
    (Hears (poor 599 listening) seven ∧ energyDue (poor 599 listening) seven 10 ∧ admits 100 600 (poor 599 listening) = false) ∧
    (¬ energyDue (having listening) seven 9 ∧ base.power.mode ≠ .dormant) ∧
    (Hears dormantState seven ∧ (dormantState.line seven).state ≠ .listening ∧ dormantState.power.mode = .dormant ∧
      (dormantState.service seven).shedClass ≠ 0) := by
  unfold Hears energyDue; decide +kernel

/-- DORMANT, with every line of class 0. -/
def dozing (wakes settled : Bool) : State :=
  { dormantState with
    tables := { base.tables with
      service := Vector.replicate 48 { entry with shedClass := 0 }, power := { supply with wakeOnEnergy := wakes } }
    power := { dormantState.power with settled := settled, sample := some 41999 } }
theorem not_carries_dozing (wakes : Bool) : ¬ carries (dozing wakes false) := by
  rintro (h | h | ⟨v, h, hv⟩)
  · cases h
  · cases h
  · cases h; revert hv; cases wakes <;> decide +kernel
theorem witness_EnergyReportsTaken_wake :
    (Hears (dozing true true) seven ∧ (dozing true true).power.mode = .dormant ∧ ((dozing true true).line seven).state = .parked ∧
      ((dozing true true).service seven).shedClass = 0 ∧ (dozing true true).tables.power.energyThreshold ≤ 10) ∧
    ((dozing true true).tables.power.wakeOnEnergy = true ∧ (dozing false true).tables.power.wakeOnEnergy = false ∧
      (dozing true true).power.wakeTaken = false ∧ carries (dozing true true)) ∧ ¬ carries (dozing true false) :=
  ⟨by unfold Hears; decide +kernel, ⟨by decide +kernel, by decide +kernel, by decide +kernel, .inl rfl⟩, not_carries_dozing true⟩

theorem witness_LosTakenByState :
    (Hears (having active) seven ∧ listenGranted (having active) seven) ∧
    (Hears (poor 0 { active with cost := 50 }) seven ∧ ¬ listenGranted (poor 0 { active with cost := 50 }) seven) ∧
    (Hears (having (training exchange)) seven ∧ ((having (training exchange)).line seven).state = .training) ∧
    (Hears base seven ∧ (base.line seven).state ≠ .training ∧ (base.line seven).inService = false) := by
  unfold Hears listenGranted; decide +kernel

def extension : Exchange := { exchange with phase := .extension, step := 1, prevKind := some .base, partMore := false }
def selecting : Exchange :=
  { extension with phase := .select, step := 2, prevKind := some .ext, chosen := some (3, .active) }
def silentBase : Exchange := { exchange with partMore := false }

theorem witness_PagesInSteps : Hears (having (training extension)) seven ∧ Trains (having (training extension)) seven extension ∧
    ((having active).line seven).state ≠ .training ∧ Hears (having active) seven ∧ pageKind ⟨3, 0, 0, 0, 0, 0⟩ = none ∧
    (pageKind ⟨0x00, 0, 8, 0, 0, 0⟩ = some .base ∧ pageToggle ⟨0x00, 0, 8, 0, 0, 0⟩ ≠ extension.step % 2) ∧
    (pageKind ⟨0x10, 0, 8, 0, 0, 0⟩ = some .base ∧ pageToggle ⟨0x10, 0, 8, 0, 0, 0⟩ = extension.step % 2) := by
  unfold Hears Trains; decide +kernel

theorem witness_PagesInSteps_taken :
    (Hears (having (training exchange)) seven ∧ Trains (having (training exchange)) seven exchange ∧
      pageKind ⟨0, 0, 8, 1, 0, 0⟩ = some .base ∧ pageToggle ⟨0, 0, 8, 1, 0, 0⟩ = 0 ∧ exchange.partMore = true) ∧
    (Trains (having (training { extension with extSteps := 6 })) seven { extension with extSteps := 6 } ∧
      pageKind ⟨0x31, 1, 0, 0, 1, 0⟩ = some .ext ∧ pageToggle ⟨0x31, 1, 0, 0, 1, 0⟩ = 1 ∧
      (⟨0x31, 1, 0, 0, 1, 0⟩ : RawPage).b0.getLsbD 5 = true) := by
  unfold Hears Trains; decide +kernel

theorem witness_ResolutionSelectsProfile :
    (Hears (having (training silentBase)) seven ∧ Trains (having (training silentBase)) seven silentBase ∧
      pageKind ⟨0, 0, 8, 1, 0, 0⟩ = some .base ∧ pageToggle ⟨0, 0, 8, 1, 0, 0⟩ = 0 ∧
      chooses (having (training silentBase)) seven (learned (training silentBase) silentBase ⟨0, 0, 8, 1, 0, 0⟩) silentBase 3 .active 1400) ∧
    (Trains (poor 700 (training extension)) seven extension ∧ pageKind ⟨0x11, 0, 0, 0, 0, 0⟩ = some .ext ∧
      chooses (poor 700 (training extension)) seven (learned (training extension) extension ⟨0x11, 0, 0, 0, 0, 0⟩) extension 3
        .idleLow 400) := by
  have h : ∀ (s : State) (y : Line) (x : Exchange) (p : ProfileNo), common s y x p ↔
      (mem x.advertised p && mem y.ability p && (match y.attenuation with | some a => decide (a ≤ (s.profile p).maxAtten) | none => true)) = true := by
    intro s y x p; unfold common; cases y.attenuation <;> simp [and_assoc]
  unfold Hears Trains chooses affords; simp only [h]; decide +kernel

theorem witness_SelectEntersService : Hears (having (training selecting)) seven ∧ Trains (having (training selecting)) seven selecting ∧
    selecting.phase = .select ∧ selecting.chosen = some (3, .active) ∧ pageKind ⟨0x02, 3, 0, 0, 0, 0⟩ = some .select ∧
    pageToggle ⟨0x02, 3, 0, 0, 0, 0⟩ = selecting.step % 2 := by
  unfold Hears Trains; decide +kernel

def weak : Exchange := { extension with advertised := 0 }
/-- No budget, with line 7 in the exchange at a cost and listen_mW as given. -/
def starved (listenMw cost : Nat) : State :=
  { having { training extension with cost := cost } with
    tables := { base.tables with power := { supply with budgetNormal := 0, listenMw := listenMw } } }
theorem common_iff (s : State) (y : Line) (x : Exchange) (p : ProfileNo) : common s y x p ↔
    (mem x.advertised p && mem y.ability p && (match y.attenuation with | some a => decide (a ≤ (s.profile p).maxAtten) | none => true)) = true := by
  unfold common; cases y.attenuation <;> simp [and_assoc]
theorem starved_chooses : (∀ p k c, ¬ chooses (starved 100 600) seven (training extension) extension p k c) ∧
    ∀ p k c, ¬ chooses (starved 500 100) seven { training extension with cost := 100 } extension p k c := by
  constructor
  · have hc : ∀ p : ProfileNo, common (starved 100 600) (training extension) extension p → p = 3 := by
      simp only [common_iff]; decide +kernel
    intro p k c hx
    rcases hx with ⟨_, rfl, hp, ha, _⟩ | ⟨_, rfl, hp, _, _, _, _, ha⟩ <;>
      (have := hc p hp; subst this; revert ha; unfold affords; decide +kernel)
  · have hc : ∀ p : ProfileNo, common (starved 500 100) { training extension with cost := 100 } extension p → p = 3 := by
      simp only [common_iff]; decide +kernel
    intro p k c hx
    rcases hx with ⟨_, rfl, hp, ha, _⟩ | ⟨_, rfl, hp, _, _, _, _, ha⟩ <;>
      (have := hc p hp; subst this; revert ha; unfold affords; decide +kernel)
theorem witness_PageEndsExchangeWithoutService :
    (Hears (having (training { extension with extSteps := 7 })) seven ∧
      Trains (having (training { extension with extSteps := 7 })) seven { extension with extSteps := 7 } ∧
      pageKind ⟨0x31, 0, 0, 0, 0, 0⟩ = some .ext ∧ pageToggle ⟨0x31, 0, 0, 0, 0, 0⟩ = 1) ∧
    (Hears (having (training weak)) seven ∧ Trains (having (training weak)) seven weak ∧
      ∀ p, ¬ common (having (training weak)) (training weak) weak p) ∧
    (Trains (having (training selecting)) seven selecting ∧ pageKind ⟨0x02, 5, 0, 0, 0, 0⟩ = some .select ∧ (5 : Byte).toNat ≠ (3 : ProfileNo).val) ∧
    (Hears (starved 100 600) seven ∧ Trains (starved 100 600) seven extension ∧ listenGranted (starved 100 600) seven ∧
      waitKind (starved 100 600) seven = none ∧ common (starved 100 600) (training extension) extension 3) ∧
    (Trains (starved 500 100) seven extension ∧ ¬ listenGranted (starved 500 100) seven ∧ waitKind (starved 500 100) seven = none ∧
      common (starved 500 100) { training extension with cost := 100 } extension 3) := by
  unfold Hears Trains listenGranted; simp only [common_iff]; decide +kernel

theorem witness_PageTimeoutResendsOrFails :
    Trains (having (training { exchange with timer := 499 })) seven { exchange with timer := 499 } ∧
    Trains (having (training { exchange with timer := 500, resends := 2 })) seven { exchange with timer := 500, resends := 2 } ∧
    Trains (having (training { exchange with timer := 500, resends := 3 })) seven { exchange with timer := 500, resends := 3 } := by
  unfold Trains; decide +kernel

theorem witness_IdleExpiryMovesToIdleLow : active.idle ≠ .expired ∧
    (let x := (having { active with idle := .expired, powerSave := false }).line seven
     x.state = .active ∧ x.idle = .expired ∧ x.running = some 3 ∧ x.powerSave = false) ∧
    (let x := (having { active with idle := .expired }).line seven
     x.state = .active ∧ x.idle = .expired ∧ x.powerSave = true ∧ (base.profile 3).idleAllowed = true) := by decide +kernel

def linkDown : State := { base with uplink := {} }
def sending (tx : TxSource) (control : List CtlFrame) (x : Line) : State :=
  { having x with uplink := { base.uplink with tx := some tx, control := control } }
/-- The Enter Dormant response is in transmission with its entry overdue, and a Restart response waits behind it. -/
def entryAndRestart (k : RestartKind) : State :=
  { sending .control [⟨[1], .dormantResponse⟩, ⟨[2], .restartResponse⟩] active with
    power := { base.power with entryPending := true, entryTimer := 100 }, mgmt := { restartPending := some k } }
theorem witness_entryThenRestart :
    (entryAndRestart .warm).stage = .run ∧ (entryAndRestart .warm).uplink.up = true ∧ (entryAndRestart .warm).uplink.tx = some .control ∧
    (∃ d ∈ ([⟨[2], .restartResponse⟩] : List CtlFrame), d.role = .restartResponse) ∧
    (entryAndRestart .warm).power.entryPending = true ∧ 100 ≤ (entryAndRestart .warm).power.entryTimer ∧
    (∃ c ∈ (entryAndRestart .warm).uplink.control, c.role = .restartResponse) ∧
    (entryAndRestart .warm).mgmt.restartPending = some .warm ∧ (entryAndRestart .cold).mgmt.restartPending = some .cold := by decide +kernel
/-- R187: the entry discards the Restart response, and the restart is made after it. -/
theorem test_entry_then_restart : let t := after .entryFallback (entryAndRestart .warm)
    OutMsg.terminalOff ∈ t.out ∧ OutMsg.pollBattery ∈ t.out ∧ t.uplink.terminalOn = true ∧ t.mgmt.restartPending = none := by
  decide +kernel
def queued : Line := { active with upq := [⟨plain 80, some 100⟩, ⟨plain 200, some 100⟩] }
theorem witness_UplinkLinkChanges :
    (linkDown.stage = .run ∧ linkDown.uplink.up = false ∧ linkDown.uplink.terminalOn = true) ∧
    (base.uplink.up = true ∧ base.uplink.tx = none) ∧
    ((sending .control [⟨[1], .response⟩] active).uplink.tx = some .control) ∧
    ((sending .control [⟨[1], .notification⟩] active).uplink.control = [⟨[1], .notification⟩]) ∧
    (let s := sending .control [⟨[1], .dormantResponse⟩, ⟨[2], .response⟩] active
     s.power.entryPending = false ∧ ({ s with power := { s.power with entryPending := true } } : State).power.entryPending = true ∧
     ∀ d ∈ ([⟨[2], .response⟩] : List CtlFrame), d.role ≠ .restartResponse) ∧
    (let s (k : RestartKind) := { sending .control [⟨[1], .restartResponse⟩] active with mgmt := { restartPending := some k } }
     (s .warm).uplink.up = true ∧ (s .warm).mgmt.restartPending = some .warm ∧ (s .cold).mgmt.restartPending = some .cold) ∧
    ((sending (.line seven) [] queued).uplink.tx = some (.line seven) ∧
      ((sending (.line seven) [] queued).line seven).upq = ⟨plain 80, some 100⟩ :: [⟨plain 200, some 100⟩]) := by decide +kernel

theorem witness_TerminalFramesTaken : base.stage = .run ∧ base.uplink.up = true ∧ 4 + ([] : Bytes).length ≤ 1521 ∧
    (3 : Byte) ≠ 1 ∧ (3 : Byte) ≠ 2 ∧ ([0, 0, 1] : Bytes).length < 4 ∧ ([0] : Bytes).length < 2 := by decide +kernel

def forwarding : State :=
  { having active with tables := { base.tables with forwarding := (Vector.replicate 192 {}).set 5 ⟨true, 101, 7⟩ } }
theorem forwarding_valid : ∀ i : Fin 192, forwarding.tables.forwarding[i].valid = true → i = 5 := by decide +kernel
theorem forwarding_good : forwardingGood forwarding.tables.forwarding := by
  refine ⟨fun i j hij hi hj => absurd ((forwarding_valid i hi).trans (forwarding_valid j hj).symm) hij, fun i hi => ?_⟩
  have := forwarding_valid i hi; subst this; decide +kernel
theorem forwarding_tagged : tagged forwarding (frame 68 101) seven := by
  refine ⟨by unfold typeIs; decide +kernel, 5, ?_⟩; decide +kernel
theorem forwarding_untagged : ∀ l, ¬ tagged forwarding (frame 68 102) l := by
  rintro l ⟨_, i, hv, ht, _⟩
  have := forwarding_valid i hv; subst this; revert ht; decide +kernel

theorem witness_DownstreamDrops :
    forwarding.stage = .run ∧ forwarding.uplink.up = true ∧ forwardingGood forwarding.tables.forwarding ∧ 1536 < (frame 1537 101).length ∧
    (isSubscriber forwarding (frame 67 101) ∧ (frame 67 101).length < 68) ∧
    (isSubscriber forwarding (frame 68 102) ∧ ∀ l, ¬ tagged forwarding (frame 68 102) l) ∧
    (isSubscriber forwarding (frame 68 101) ∧ tagged forwarding (frame 68 101) seven ∧
      fitsDown forwarding seven (frame 68 101) ∧ ¬ fitsDown { forwarding with lines := base.lines } seven (frame 68 101)) := by
  refine ⟨by decide +kernel, by decide +kernel, forwarding_good, by decide +kernel, ?_, ⟨?_, forwarding_untagged⟩, ?_, forwarding_tagged, ?_⟩
  · unfold isSubscriber isMgmt typeIs; decide +kernel
  · unfold isSubscriber isMgmt typeIs; decide +kernel
  · unfold isSubscriber isMgmt typeIs; decide +kernel
  · unfold fitsDown; decide +kernel

theorem witness_DownstreamAccepted :
    isSubscriber forwarding (frame 68 101) ∧ tagged forwarding (frame 68 101) seven ∧ fitsDown forwarding seven (frame 68 101) ∧
    cells ((frame 68 101).length - 4) ≤ forwarding.pool.free ∧ (forwarding.line seven).running = some 3 ∧
    (let s := withLine forwarding seven { idleLow with upq := List.replicate 9 ⟨plain 80, some 100⟩ }
     (s.line seven).state = .idleLow ∧ waitKind s seven = none ∧
       s.tables.power.promoteCells < depth ((acceptedDown seven (frame 68 101) s).line seven).upq) := by
  refine ⟨?_, forwarding_tagged, ?_, ?_⟩
  · unfold isSubscriber isMgmt typeIs; decide +kernel
  · unfold fitsDown; decide +kernel
  · decide +kernel

theorem witness_RequestsJoinTheQueue :
    (base.uplink.up = true ∧ isMgmt base (request header 4 []) ∧ (request header 4 []).length ≤ 1536 ∧ base.mgmt.requests.length < 4) ∧
    4 ≤ ({ requests := [[], [], [], []] } : Mgmt).requests.length ∧ linkDown.uplink.up = false := by
  unfold isMgmt typeIs; decide +kernel

theorem witness_ArbiterChooses :
    (base.uplink.eligiblePos ≤ 48 ∧ base.uplink.borrowPos ≤ 48 ∧ mayChoose base ∧ ¬ mayChoose linkDown) ∧
    (mayChoose { base with uplink := { base.uplink with control := [⟨[1], .response⟩] } }) ∧
    (∃ f fs, ((having queued).line seven).upq = f :: fs ∧ f.data.length * 8 ≤ ((having queued).line seven).credit) ∧
    (∀ k, eligibleLine (having queued) k → behind 0 seven ≤ behind 0 k) ∧
    ((∀ k, ¬ eligibleLine (having { queued with credit := 0 }) k) ∧ ∀ k, ¬ borrowLine (having queued) k) ∧
    borrowLine { having queued with tables := { base.tables with service := Vector.replicate 48 { entry with borrow := true } } } seven := by
  have only : ∀ (x : Line) k, k ≠ seven → ((having x).line k).upq = [] := by
    intro x k hk
    have : (having x).line k = base.line k := by
      simp only [State.line, having, withLine]
      exact Vector.getElem_set_ne _ _ (fun e => hk (Fin.ext e.symm))
    rw [this]; clear this hk; revert k; decide +kernel
  refine ⟨by unfold mayChoose; decide +kernel, by unfold mayChoose; decide +kernel,
    ⟨⟨plain 80, some 100⟩, [⟨plain 200, some 100⟩], by decide +kernel⟩, ?_, ⟨?_, ?_⟩, by unfold borrowLine; decide +kernel⟩
  · rintro k ⟨f, fs, h, _⟩
    by_cases hk : k = seven
    · subst hk; exact Nat.le_refl _
    · rw [only _ k hk] at h; cases h
  · rintro k ⟨f, fs, h, hc⟩
    by_cases hk : k = seven
    · subst hk
      have e : ((having { queued with credit := 0 }).line seven).upq = [⟨plain 80, some 100⟩, ⟨plain 200, some 100⟩] := by decide +kernel
      rw [e] at h; cases h; revert hc; decide +kernel
    · rw [only _ k hk] at h; cases h
  · unfold borrowLine; decide +kernel

def entryWaits : State :=
  { sending .control [⟨[1], .dormantResponse⟩] active with power := { base.power with entryPending := true, entryTimer := 100 } }
def restarting (k : RestartKind) (ms : Nat) : State :=
  { sending .control [⟨[1], .restartResponse⟩] active with mgmt := { restartPending := some k, restartTimer := ms } }
theorem witness_TransmissionEnds :
    base.uplink.tx = none ∧ (sending (.line seven) [] queued).uplink.tx = some (.line seven) ∧
    (sending .control [⟨[1], .response⟩] active).uplink.control = [⟨[1], .response⟩] ∧
    (sending .control [⟨[1], .notification⟩] active).uplink.tx = some .control ∧
    (entryWaits.uplink.tx = some .control ∧ entryWaits.power.entryPending = true) ∧
    (sending .control [⟨[1], .dormantResponse⟩] active).power.entryPending = false ∧
    (restarting .warm 0).mgmt.restartPending = some .warm ∧ (restarting .cold 0).mgmt.restartPending = some .cold := by decide +kernel

/-- Section 4.7: at 100 000 line 2 of the five saturates in the first round; at 30 000 the guarantees exceed the capacity. -/
theorem witness_ShareComputation : (∀ i ∈ five, 0 < i.weight) ∧ (computeShare five 100000).oversubscribed = false ∧
    (computeShare five 30000).oversubscribed = true ∧ (∃ i ∈ five, i.guarantee < i.ceiling ∧ i.ceiling - i.guarantee ≤ 60000 * i.weight / 10) ∧
    (∀ i ∈ ([⟨seven, 1, 0, 60000⟩] : List ShareInput), i.guarantee < i.ceiling ∧ ¬ i.ceiling - i.guarantee ≤ 1000 * i.weight / 1) ∧
    (computeShare [⟨seven, 1, 0, 60000⟩] 1000).oversubscribed = false ∧ 1 ≤ (computeShare [⟨seven, 1, 0, 60000⟩] 60001).spare := by decide +kernel

def flying : Flight := ⟨18000, [⟨seven, 1, 0, 1000⟩], 0⟩
def sharing : State := { having active with share := { flight := some flying } }
theorem witness_ReshareTriggers : sharing.share.flight = some flying ∧ base.share.flight = none ∧ base.stage = .run := by decide +kernel
theorem witness_ReshareInstalls : sharing.stage = .run ∧ (flying.lines.map ShareInput.line).Nodup := by
  decide +kernel

theorem witness_AdmissionAndWaiting :
    dormantState.power.mode = .dormant ∧ (base.power.mode ≠ .dormant ∧ waitKind base seven = none ∧ base.power.stampCount < 4294967295 ∧
      waitOrdered base.power.wait ∧ ∀ e ∈ base.power.wait, e.stamp < base.power.stampCount) ∧
    fits ⟨seven, .listen, 1, 0, none⟩ base = true := by
  unfold waitOrdered; decide +kernel
/-- Line 7 waits for TRAIN, which does not fit, and line 4 behind it for LISTEN, which does. -/
def queueing : State :=
  { poor 250 listening with power := { base.power with wait := [⟨seven, .train, 1, 0, none⟩, ⟨3, .listen, 1, 1, none⟩], stampCount := 2 } }
theorem witness_AdmissionAndWaiting_scan :
    (queueing.power.mode ≠ .dormant ∧ queueing.power.awaiting = false ∧ (queueing.power.wait.map WaitEntry.line).Nodup ∧
      waitOrdered queueing.power.wait ∧ account queueing ≤ allowance queueing) ∧
    (fits ⟨seven, .train, 1, 0, none⟩ queueing = false ∧ fits ⟨3, .listen, 1, 1, none⟩ queueing = true) ∧
    (let s (n : Notes) := { queueing with notes := n }
     (s { scan := true }).notes.scan = true ∧ (s { arbiter := true }).notes.arbiter = true ∧ (s {}).notes.scan = false) := by
  unfold waitOrdered; decide +kernel

/-- An entry of the Test Queue, on demand. -/
def wish : TestReq := { line := seven, origins := 1#3, steps := 15#4 }
/-- The stamp count stands at its end: line 7 holds an entry, and line 4 asks for one. -/
def lastStamp : State :=
  { base with
    power := { base.power with wait := [⟨seven, .listen, 1, 4294967290, none⟩], stampCount := 4294967295 }
    test := { queue := [{ wish with stamp := 4294967290 }], stampCount := 4294967295 } }
theorem witness_AdmissionAndWaiting_stamps : lastStamp.power.mode ≠ .dormant ∧ waitKind lastStamp 3 = none ∧
    4294967295 ≤ lastStamp.power.stampCount ∧ waitOrdered lastStamp.power.wait ∧ (lastStamp.power.wait.map WaitEntry.stamp).Nodup ∧
    ∀ e ∈ lastStamp.power.wait, e.stamp < lastStamp.power.stampCount := by
  unfold waitOrdered; decide +kernel
/-- R116, R129: the entries are stamped anew, the new one last, and the count is their number. -/
theorem test_stamps_start_again :
    (let p := (addWait 3 .listen none lastStamp).power; p.wait.map WaitEntry.stamp = [0, 1] ∧ p.wait.map WaitEntry.line = [6, 3] ∧ p.stampCount = 2) ∧
    (let c := (requestOwn 3 1#3 15#4 lastStamp).test
     c.queue.map TestReq.stamp = [0, 1] ∧ c.queue.map TestReq.line = [6, 3] ∧ c.stampCount = 2) := by decide +kernel

def cell (mv : Option Int) : State := { base with power := { base.power with settled := false, sample := mv } }
theorem witness_SupplyInputs_modes : base.power.settled = true ∧ (cell none).power.sample = none ∧
    ((41999 : Int) < supply.cutoffMv ∧ (42000 : Int) ≥ supply.cutoffMv ∧ (45999 : Int) < supply.reserveMv ∧
     (46000 : Int) ≥ supply.reserveMv ∧ (49999 : Int) < supply.recoverMv ∧ (50000 : Int) ≥ supply.recoverMv) ∧
    (cell (some 46000)).power.settled = false := by decide +kernel

def settling (awaiting : Bool) (mode : Mode) : State :=
  { base with power := { base.power with settleDue := true, awaiting := awaiting, mode := mode } }
def polling (ms : Nat) (flying : Bool) : State := { base with power := { base.power with polling := flying, pollTimer := ms } }
theorem witness_SupplyInputs : base.power.settleDue = false ∧ (settling true .reserve).power.settleDue = true ∧
    (settling false .normal).power.awaiting = false ∧ (settling false .dormant).power.mode = .dormant ∧
    (polling 999 false).power.pollTimer < 1000 ∧ 1000 ≤ (polling 1000 false).power.pollTimer ∧ (polling 49 true).power.pollTimer < 50 ∧
    (polling 50 true).power.polling = true ∧ 50 ≤ (polling 50 true).power.pollTimer := by decide +kernel
theorem witness_SupplyInputs_exit :
    ((dozing true true).power.mode = .dormant ∧ carries (dozing true true) ∧ ¬ carries (dozing true false)) ∧
    ({ (dozing true true).power with wakeTaken := true } : PowerCtl).wakeTaken = true ∧ (dozing true true).tables.power.wakeOnFeed = false ∧
    ({ supply with wakeOnFeed := true } : PowerTable).wakeOnFeed = true :=
  ⟨⟨by decide +kernel, .inl rfl, not_carries_dozing true⟩, by decide +kernel⟩

theorem witness_ModeChangesAndRestartEntries :
    ((having active).power.awaiting = false ∧ account (having active) ≤ supply.budgetHoldup) ∧
    supply.budgetReserve < account (having { active with cost := 3001 }) ∧
    ((base.line seven).state = .parked ∧ waitKind base seven = none ∧ base.power.mode ≠ .dormant) ∧
    ((having active).line seven).state ≠ .parked := by decide +kernel

theorem witness_ShedRestoresBudget :
    (account base ≤ allowance base) ∧
    (let s := { poor 1399 active with power := { base.power with wait := [⟨3, .listen, 1, 4, none⟩], stampCount := 5, testCommit := 500 } }
     (∀ l, (s.service l).shedClass ≤ 2) ∧ (∀ l, (s.line l).powered = false → (s.line l).cost = 0) ∧ allowance s < account s ∧
       s.power.mode ≠ .dormant ∧ (∀ e ∈ s.power.wait, e.stamp < s.power.stampCount) ∧ (s.power.wait.map WaitEntry.stamp).Nodup ∧
       s.power.stampCount ≤ 4294967295 ∧ s.power.testCommit ≠ 0) ∧
    (((having active).line seven).powered = true ∧ (base.line seven).powered = false ∧ active.running = some 3 ∧
      ((having active).profile 3).idleAllowed = true ∧ active.powerSave = true ∧ ({ active with powerSave := false } : Line).powerSave ≠ true) := by
  decide +kernel

def judging : Judgement := ⟨50000, 20000, 1000, 50⟩
def trial (k : Option TestStep) (ms : Nat) : CurrentTest :=
  { req := wish, outcomes := stepList 15#4, current := k, commitHeld := true, stageTimer := ms, startTime := 0, judgement := some judging }
def testing (bus : BusState) (t : CurrentTest) : State :=
  { having { state := .testing, mode := .released } with
    test := { bus := bus, current := some t }, power := { base.power with testCommit := 500 } }

/-- The Test Queue is full: lines 1 to 12 wait, on demand. -/
def full : State :=
  { base with test := { queue := (List.finRange 12).map fun k => { wish with line := Fin.ofNat 48 k.val, stamp := k.val }, stampCount := 12 } }

theorem witness_DormantEntryLeavesNothingCommitted : base.power.entryPending = false ∧
    (entryWaits.stage = .run ∧ entryWaits.power.entryPending = true ∧ 100 ≤ entryWaits.power.entryTimer ∧
      (∀ c ∈ entryWaits.uplink.control, c.role ≠ .restartResponse) ∧
      ∀ l, (entryWaits.line l).powered = false → (entryWaits.line l).cost = 0) := by decide +kernel
theorem not_armed : ¬ armed { base.tables with power := { supply with wakeOnButton := false } } := by
  unfold armed; decide +kernel
theorem witness_DormantEntryLeavesNothingCommitted_entry : armed base.tables ∧
    (let s := testing .measure (trial (some .cap) 9); s.test.current = some (trial (some .cap) 9) ∧ s.test.bus = .measure) ∧
    (let s := testing .fault (trial none 9); s.test.current = some (trial none 9) ∧ s.test.bus = .fault) ∧ base.test.current = none ∧
    (full.test.queue ≠ [] ∧ base.test.queue = []) ∧ (kindEnabled base 6 = true ∧ kindEnabled base 7 = true) ∧
    ((dozing true true).service seven).shedClass = 0 ∧ (dozing true true).tables.power.wakeOnEnergy = true ∧
    base.time.inUse = .oscillator ∧ base.mgmt.notif ≠ .queued := ⟨.inr (.inl rfl), by decide +kernel⟩
/-- R25, R124, R134, R149: the entry aborts the test in MEASURE, drops the queued one, and sends RELEASE and the modes. -/
theorem test_entry_aborts_test :
    let s := { testing .measure (trial (some .cap) 9) with power := { entryWaits.power with testCommit := 500 } }
    let t := after .entryFallback { s with test := { s.test with queue := [{ wish with line := 3 }], stampCount := 1 } }
    t.test.bus = .restore ∧ t.test.queue = [] ∧ t.test.current.map (·.verdict) = some (some .abortedPower) ∧ t.power.testCommit = 0 ∧
      OutMsg.release (some seven) ∈ t.out ∧ OutMsg.lineMode seven .off ∈ t.out ∧ (t.line seven).mode = .released ∧
      t.mgmt.pending.hasPart .testDropped = true ∧ t.mgmt.pending.hasPart .modeChange = true ∧ t.results = base.results := by
  decide +kernel

theorem witness_ButtonWakesThePart : base.power.mode ≠ .dormant ∧
    (dormantState.power.mode = .dormant ∧ dormantState.tables.power.wakeOnButton = true ∧ dormantState.power.wakeTaken = false ∧
      carries dormantState) ∧
    (¬ carries { dormantState with power := { dormantState.power with settled := false, sample := some 41999 } }) ∧
    ({ base.tables.power with wakeOnButton := false } : PowerTable).wakeOnButton = false := by
  refine ⟨by decide +kernel, ⟨by decide +kernel, by decide +kernel, by decide +kernel, .inl rfl⟩, ?_, rfl⟩
  rintro (h | h | ⟨v, h, hv⟩)
  · cases h
  · cases h
  · cases h; revert hv; decide +kernel

/-! Tests -/

def wanting (x : Line) : State := { having x with test := { queue := [wish], stampCount := 1 } }
/-- Line 4 may not be tested for power; line 7, in service, may, since its own cost is set free. -/
def choosing (x : Line) (defers : Nat) : State :=
  { poor 1500 x with test := { queue := [{ wish with line := 3 }, { wish with stamp := 1, defers := defers }], stampCount := 2 } }
theorem witness_ArbiterStartsTest :
    (wanting active).test.bus = .idle ∧ (wanting active).power.mode ≠ .dormant ∧ testQueueGood (choosing active 0).test.queue ∧
    (∀ e ∈ (choosing active 0).test.queue, e.stamp < (choosing active 0).test.stampCount) ∧
    (skipped (choosing active 0) { wish with line := 3 } = true ∧ skipped (choosing active 0) { wish with stamp := 1 } = false ∧
      unquiet (choosing active 0) { wish with stamp := 1 } = false) ∧
    (let s := choosing { active with lastFrame := some 0 } 2
     skipped s { wish with line := 3 } = true ∧ skipped s { wish with stamp := 1, defers := 2 } = false ∧
       unquiet s { wish with stamp := 1, defers := 2 } = true ∧ s.tables.test.maxDefers ≤ 2 + 1 ∧ ¬ s.tables.test.maxDefers ≤ 1 + 1) := by
  unfold testQueueGood testOrdered; decide +kernel


/-- R25, section 1.3: a TESTING line's return to PARKED in DORMANT, with class-0 energy not armed, sends LINE_MODE OFF. -/
theorem test_release_confirm_dormant :
    let s := { testing .restore (trial none 9) with power := { dormantState.power with testCommit := 0 } }
    let t := after (.releaseConfirm 7) s
    (t.line seven).state = .parked ∧ OutMsg.lineMode seven .off ∈ t.out := by decide +kernel
/-- R120: with a test commitment of 0 the shed's first step does nothing. -/
theorem test_shed_leaves_powerless_test :
    let s := { testing .prepare (trial none 9) with power := { base.power with testCommit := 0 } }
    let u := withLine s 3 { active with cost := 12001 }
    (shed u).test.bus = .prepare ∧ ((shed u).line 3).state = .parked := by decide +kernel

theorem witness_TestStagesTimeOut :
    ({ quietDue := true } : TestCtl).quietDue = true ∧ base.test.quietDue = false ∧ Testing (testing .prepare (trial none 0)) .prepare (trial none 0) ∧
    Testing (testing .measure (trial (some .cap) 0)) .measure (trial (some .cap) 0) ∧
    Testing (testing .fault { trial none 0 with retry := true }) .fault { trial none 0 with retry := true } ∧
    (testing .restore (trial none 1)).test.current = some (trial none 1) ∧ (trial none 1).stageTimer ≠ 0 := by
  unfold Testing; decide +kernel
/-- The bus in another state, and MEASURE with no step outstanding: the timeouts change nothing. -/
theorem witness_TestStagesTimeOut_other :
    ((∀ t, ¬ Testing base .prepare t) ∧ ∀ t, ¬ Testing base .fault t) ∧ (∀ t, ¬ Testing (testing .prepare (trial none 0)) .restore t) ∧
    ∀ t k, Testing (testing .measure (trial none 0)) .measure t → t.current ≠ some k := by
  refine ⟨⟨fun t h => ?_, fun t h => ?_⟩, fun t h => ?_, fun t k h => ?_⟩
  · cases h.2.1
  · cases h.2.1
  · cases h.2.1
  · cases h.2.2; exact fun h => by cases h

theorem witness_MeasurementResultsTaken :
    Testing (testing .measure (trial (some .foreignV) 9)) .measure (trial (some .foreignV) 9) ∧
    (trial (some .foreignV) 9).judgement = some judging ∧ (trial (some .foreignV) 9).current = some .foreignV ∧
    (trial (some .loopR) 9).current = some .loopR ∧ (trial (some .cap) 9).current = some .cap ∧
    (trial (some .insul) 9).current = some .insul ∧ (trial (some .cap) 9).current ≠ some (stepOf (.loopR 1 1)) ∧
    judging.hazardMv ≤ (-50000 : Int).natAbs ∧ ¬ judging.hazardMv ≤ (49999 : Int).natAbs := by
  unfold Testing; decide +kernel

theorem witness_MeasurementResultsTaken_outside : ∀ t, ¬ Testing (testing .restore (trial none 9)) .measure t := by
  intro t h; cases h.2.1

theorem witness_TestsEnd :
    Testing (testing .restore (trial none 0)) .restore (trial none 0) ∧ (trial none 0).stageTimer = 0 ∧
    (trial none 0).verdict ≠ some .hazard ∧ (base.service seven).enabled = true ∧ waitKind (testing .restore (trial none 0)) seven = none ∧
    verdictOf { trial none 0 with verdict := some .hazard } = .hazard ∧
    (let t := { trial none 0 with verdict := some .hazard }
     Testing (testing .restore t) .restore t ∧ t.stageTimer = 0 ∧ kindEnabled (testing .restore t) 5 = true) ∧
    (Testing (testing .fault (trial none 0)) .fault (trial none 0) ∧ (trial none 0).retry = false) ∧
    (Testing (testing .fault { trial none 0 with retry := true }) .fault { trial none 0 with retry := true }) := by
  unfold Testing; decide +kernel
/-- R146: a retry's confirm returns the fault line PARKED with a LISTEN entry, which the scan of the step's end grants. -/
theorem test_retry_confirm :
    let s := testing .fault { trial none 0 with retry := true }
    let t := after (.releaseConfirm 7) (withLine s seven { state := .blocked })
    (t.line seven).state = .listening ∧ t.test.bus = .idle := by decide +kernel

def measured (ohms kohm : Nat) : CurrentTest :=
  { trial none 0 with
    outcomes := ⟨.done, .done, .done, .done⟩
    values := { loop := some (1000, 5, ohms, false), insulation := some (1000, 5, kohm) } }
theorem witness_VerdictOrder : (trial none 0).judgement = some judging ∧ (trial none 0).verdict = none ∧
    ((measured 20000 5).outcomes.loopR = .done ∧ judging.openOhms ≤ 20000) ∧
    (¬ judging.openOhms ≤ 19999 ∧ (measured 19999 999).outcomes.insul = .done ∧ 999 < judging.insulMinKohm) ∧
    ¬ (1000 : Nat) < judging.insulMinKohm ∧
    ({ measured 19999 1000 with outcomes := ⟨.done, .done, .timedOut, .done⟩ } : CurrentTest).outcomes.cap = .timedOut := by decide +kernel

/-! Requests -/

theorem header_fits : ∀ t n : Nat, t < 256 → n < 256 → Header.fits { header with table := t, count := n } := by
  intro t n ht hn; exact ⟨show 0x1234 < 65536 by decide, ht, show 0 < 65536 by decide, hn⟩

def due : State := { base with mgmt := { notif := .due, pending := { part := 0x400 } } }
theorem due_tellable : tellable due := ⟨by decide +kernel, .inr ⟨10, by decide +kernel⟩⟩
theorem base_not_tellable : ¬ tellable base := by
  rintro ⟨_, ⟨k, l, h, _⟩ | ⟨k, h, _⟩⟩
  · revert h; cases k <;> revert l <;> decide +kernel
  · revert h; revert k; decide +kernel

theorem witness_RequestProcessing :
    (base.stage = .run ∧ requestRow .readEvents ∧ base.mgmt.requests = []) ∧
    (Waiting { base with mgmt := { requests := [List.replicate 22 1] } } (List.replicate 22 1) [] ∧ (List.replicate 22 (1 : Byte)).length < 23) ∧
    (Waiting (asked base header 4 []) (request header 4 []) [[1]] ∧ Header.fits header) ∧
    (tellable due ∧ due.mgmt.notif = .due ∧ due.power.mode ≠ .dormant ∧ due.uplink.control.length < 3) ∧ ¬ tellable base :=
  ⟨⟨by decide +kernel, ⟨4, 0, rfl⟩, by decide +kernel⟩, ⟨by unfold Waiting; decide +kernel, by decide⟩,
    ⟨by unfold Waiting; decide +kernel, by unfold Header.fits; decide⟩,
    ⟨due_tellable, by decide +kernel, by decide +kernel, by decide +kernel⟩, base_not_tellable⟩

/-- A request of the payload length its code asks for may be processed. -/
theorem asked_ready (h : Header) (code : Nat) (payload : Bytes) (hf : h.fits) (hl : payload.length = payloadOf h code)
    (hs : payload.length < 65536) : Asked (asked base h code payload) h code payload [[1]] :=
  ⟨⟨rfl, rfl, by simp [asked, base, State.reset, coldState], by simp [asked, base, State.reset, coldState]⟩, hf, hl, hs⟩

def inTable (table count : Nat) : Header := { header with table := table, count := count }
theorem witness_WriteEntriesApplied :
    Asked (asked base (inTable 1 1) 2 (serviceBytes entry)) (inTable 1 1) 2 (serviceBytes entry) [[1]] ∧
    Asked (asked base (inTable 11 1) 2 (mgmtBytes {})) (inTable 11 1) 2 (mgmtBytes {}) [[1]] ∧
    (asked base (inTable 1 1) 2 (serviceBytes entry)).image.phase = .idle ∧ ({ phase := .erasing } : ImageStore).phase ≠ .idle :=
  ⟨asked_ready _ _ _ (header_fits 1 1 (by decide) (by decide)) (by decide +kernel) (by decide +kernel),
    asked_ready _ _ _ (header_fits 11 1 (by decide) (by decide)) (by decide +kernel) (by decide +kernel), by decide +kernel, by decide⟩

theorem witness_ReadsAnswerWhatStands :
    Asked (asked base (inTable 1 255) 1 []) (inTable 1 255) 1 [] [[1]] ∧ Asked (asked base (inTable 16 0) 1 []) (inTable 16 0) 1 [] [[1]] ∧
    Asked (asked base (inTable 0 0) 3 [0, 49, 1]) (inTable 0 0) 3 [0, 49, 1] [[1]] ∧
    Asked (asked base (inTable 0 0) 4 []) (inTable 0 0) 4 [] [[1]] :=
  ⟨asked_ready _ _ _ (header_fits 1 255 (by decide) (by decide)) (by decide) (by decide),
    asked_ready _ _ _ (header_fits 16 0 (by decide) (by decide)) (by decide) (by decide),
    asked_ready _ _ _ (header_fits 0 0 (by decide) (by decide)) (by decide) (by decide),
    asked_ready _ _ _ (header_fits 0 0 (by decide) (by decide)) (by decide) (by decide)⟩

theorem witness_SettingsEntriesStored :
    (readUplinkSettings (uplinkBytes {}) = base.tables.uplink ∧ readUplinkSettings (uplinkBytes { pinned := 5 }) ≠ base.tables.uplink) ∧
    ((readTimeSettings (timeBytes { reference := .recovered })).reference ≠ base.tables.time.reference ∧ base.time.inUse ≠ .recovered) ∧
    (readMgmt (List.replicate 14 1)).mgmtAddress.getLsbD 40 = true ∧ (readMgmt (mgmtBytes {})).mgmtAddress.getLsbD 40 = false ∧
    (readForward [0, 0, 1, 1]).valid = false ∧
    (let line0 := readForward [1, 0, 1, 0]; line0.valid = true ∧ line0.line = 0) ∧ (readForward [1, 0, 1, 49]).line = 49 ∧
    (let tag0 := readForward [1, 0, 0, 1]; tag0.valid = true ∧ tag0.tag = 0 ∧ tag0.line = 1) ∧ (readForward [1, 0x0F, 0xFF, 48]).tag = 4095 ∧
    (let held := readForward [1, 0, 101, 48]; held.tag = 101 ∧ forwarding.tables.forwarding[5].tag = 101 ∧
      forwarding.tables.forwarding[5].valid = true) ∧ (readForward [1, 0x0F, 0xFE, 48]).tag = 4094 := by decide +kernel

theorem witness_ServiceEntryStored :
    (leavesState (having active) seven { entry with weight := 9 }) ∧ (leavesState (having active) seven { entry with borrow := true } ∧
      entry.borrow = false) ∧ (leavesState (having listening) seven { entry with allowed := 0 }) ∧
    (leavesState base seven { entry with shedClass := 0 } ∧ entry.shedClass ≠ 0 ∧ (base.power.wait.map WaitEntry.line).Nodup) ∧
    (let s := { withLine base seven {} with tables := { base.tables with service := Vector.replicate 48 {} } }
     (s.service seven).enabled = false ∧ (s.line seven).state = .down ∧ s.power.mode ≠ .dormant ∧ waitKind s seven = none) ∧
    (((having active).service seven).enabled = true ∧ ((having active).line seven).powered = true) ∧
    (queuedTest (wanting active) seven = some wish ∧ kindEnabled (wanting active) 4 = true ∧
      ((wanting active).service seven).enabled = true ∧ (readService (serviceBytes { entry with enabled := false })).enabled = false) ∧
    (let s := testing .prepare (trial none 9); (s.line seven).state = .testing ∧ s.test.current = some (trial none 9) ∧
      (trial none 9).req.line = seven) ∧
    isFaultLine { testing .fault (trial none 0) with lines := (having { state := .blocked }).lines } seven = true ∧
    (mem entry.allowed 3 = true ∧ mem ({ entry with allowed := 0 } : ServiceEntry).allowed 3 = false ∧
      readService (serviceBytes { entry with allowed := 0 }) = { entry with allowed := 0 }) := by
  refine ⟨?_, ⟨?_, rfl⟩, ?_, ⟨?_, ?_⟩, ?_⟩
  · exact ⟨.inl (by decide +kernel), .inl (by decide +kernel)⟩
  · exact ⟨.inl (by decide +kernel), .inl (by decide +kernel)⟩
  · exact ⟨.inl (by decide +kernel), .inr ⟨by decide +kernel, fun p h => absurd h (by decide +kernel)⟩⟩
  · exact ⟨.inl (by decide +kernel), .inl (by decide +kernel)⟩
  all_goals decide +kernel

theorem witness_ProfileAndPowerEntriesStored :
    (readProfile (profileBytes rates) = base.profile 3 ∧ readProfile (profileBytes { rates with reach := 9 }) ≠ base.profile 3) ∧
    (((having active).line seven).inService = true ∧ ((having active).line seven).running = some 3) ∧
    (((having (training exchange)).line seven).state = .training ∧ mem exchange.advertised 3 = true) ∧
    dormantState.power.mode = .dormant ∧
    ((readPower (powerBytes { supply with budgetNormal := 5 })).cutoffMv = supply.cutoffMv ∧ base.power.awaiting = false) ∧
    (evaluateMode { cell (some 45000) with tables := { base.tables with power := readPower (powerBytes { supply with cutoffMv := 45500 }) } }
      (some .normal) = .dormant) ∧
    (evaluateMode { cell (some 45000) with tables := { base.tables with power := readPower (powerBytes { supply with cutoffMv := 45000 }) } }
      (some .normal) = .reserve) ∧
    ((readPower (powerBytes { supply with cutoffMv := 45000 })).cutoffMv ≠ supply.cutoffMv ∧ (∀ l, (base.service l).shedClass ≤ 2)) := by
  decide +kernel

theorem witness_TestAndUnblockRequests :
    Asked (asked base header 6 [7, 15, 0]) header 6 [7, 15, 0] [[1]] ∧ Asked (asked base header 7 [48]) header 7 [48] [[1]] ∧
    Asked (asked base header 8 [49]) header 8 [49] [[1]] ∧
    (testQueueGood (wanting active).test.queue ∧ queuedTest (wanting active) seven = some wish) ∧
    (queuedTest base seven = none ∧ base.test.queue.length < 12 ∧ testQueueGood base.test.queue) ∧
    (queuedTest lastStamp 3 = none ∧ 4294967295 ≤ lastStamp.test.stampCount ∧ testQueueGood lastStamp.test.queue ∧
      ∀ e ∈ lastStamp.test.queue, e.stamp < lastStamp.test.stampCount) ∧
    12 ≤ (List.replicate 12 wish).length ∧ ((having { state := .blocked }).line seven).state = .blocked := by
  have fit : header.fits := by unfold Header.fits; decide
  refine ⟨asked_ready _ _ _ fit (by decide) (by decide), asked_ready _ _ _ fit (by decide) (by decide),
    asked_ready _ _ _ fit (by decide) (by decide), ?_⟩
  unfold testQueueGood testOrdered; decide +kernel

theorem witness_RetrainsForcedAndCounted :
    Asked (asked base header 9 [7]) header 9 [7] [[1]] ∧ trainGranted (having listening) seven ∧ ¬ trainGranted (poor 599 listening) seven ∧
    waitKind (having listening) seven = none ∧ (active.windowStart = none) ∧
    (¬ (0 : Nat) + 1000 * entry.autoWindowS ≤ 59999 ∧ 0 + 1000 * entry.autoWindowS ≤ 60000) := by
  refine ⟨asked_ready _ _ _ (by unfold Header.fits; decide) (by decide) (by decide), ?_⟩
  unfold trainGranted; decide +kernel

theorem witness_RetrainsForcedAndCounted_own :
    ((2#3).getLsbD 0 = false ∧ (4#3).getLsbD 0 = false ∧ dormantState.power.mode = .dormant ∧ (base.line seven).state = .parked) ∧
    (queuedTest (wanting active) seven = some wish ∧ testQueueGood (wanting active).test.queue) ∧
    (queuedTest full 12 = none ∧ 12 ≤ full.test.queue.length) ∧
    (queuedTest base seven = none ∧ base.test.queue.length < 12 ∧ base.test.stampCount < 4294967295 ∧ testQueueGood base.test.queue) ∧
    (lastStamp.test.queue.length < 12 ∧ lastStamp.power.mode ≠ .dormant ∧ (lastStamp.line 3).state = .parked) := by
  unfold testQueueGood testOrdered; decide +kernel

theorem witness_TimeDormantAndRestartRequests :
    Asked (asked base header 10 (beBytes 6 281474976710655)) header 10 (beBytes 6 281474976710655) [[1]] ∧
    Asked (asked base header 11 []) header 11 [] [[1]] ∧ Asked (asked base header 12 [0]) header 12 [0] [[1]] ∧
    (base.power.entryPending = false ∧ armed base.tables ∧ ¬ eventPending base.mgmt.pending ∧ eventPending due.mgmt.pending) ∧
    ((restarting .warm 100).mgmt.restartPending = some .warm ∧ 100 ≤ (restarting .warm 100).mgmt.restartTimer) ∧
    (restarting .cold 100).mgmt.restartPending = some .cold ∧ (restarting .cold 99).mgmt.restartTimer < 100 := by
  have fit : header.fits := by unfold Header.fits; decide
  refine ⟨asked_ready _ _ _ fit (by decide) (by decide), asked_ready _ _ _ fit (by decide) (by decide),
    asked_ready _ _ _ fit (by decide) (by decide), ⟨by decide +kernel, .inr (.inl (by decide +kernel)), ?_, ?_⟩, ?_⟩
  · unfold eventPending; decide +kernel
  · unfold eventPending; decide +kernel
  · decide +kernel

def saving (phase : SavePhase) (ms : Nat) : State := { base with image := { phase := phase, building := some {}, timer := ms } }
theorem witness_ImageSaves :
    Asked (asked base header 13 []) header 13 [] [[1]] ∧ base.image.phase = .idle ∧ (saving .erasing 0).image.building = some {} ∧
    (saving .programming 0).image.phase = .programming ∧ (saving .readingBack 0).image.phase = .readingBack ∧
    ([] : Bytes).length ≠ 8192 ∧ 3000 ≤ (saving .erasing 3000).image.timer ∧ (saving .erasing 2999).image.timer < 3000 := by
  refine ⟨asked_ready _ _ _ (by unfold Header.fits; decide) (by decide) (by decide), ?_⟩
  decide +kernel

theorem witness_EventsCaptured : kindEnabled base 0 = true ∧ kindEnabled { base with tables := { base.tables with eventEnable := 0 } } 0 = false := by
  decide +kernel

theorem witness_EventsClearedAndNotified :
    Asked (asked base header 5 (beBytes 3 16777215 ++ beBytes 6 281474976710655)) header 5
      (beBytes 3 16777215 ++ beBytes 6 281474976710655) [[1]] ∧
    (due.mgmt.notif = .due ∧ due.uplink.control.length < 4 ∧ due.power.mode ≠ .dormant ∧ tellable due) ∧
    (¬ tellable { base with mgmt := { notif := .due } }) ∧
    (let s := { due with mgmt := { due.mgmt with notif := .holdoff } }; s.mgmt.notif = .holdoff ∧ s.mgmt.holdoff = 0) := by
  refine ⟨asked_ready _ _ _ (by unfold Header.fits; decide) (by decide) (by decide), ⟨by decide +kernel, by decide +kernel, by decide +kernel,
    due_tellable⟩, ?_, by decide +kernel⟩
  rintro ⟨_, ⟨k, l, h, _⟩ | ⟨k, h, _⟩⟩
  · revert h; cases k <;> revert l <;> decide +kernel
  · revert h; revert k; decide +kernel

def alarmed (a : Alarm) (mode : Mode) : State :=
  { base with tables := { base.tables with alarms := base.tables.alarms.set 2 a }, power := { base.power with mode := mode } }
theorem witness_TickMovesTimersAndFiresAlarms :
    (∀ i, ¬ alarmDue (ticked true base) i) ∧ base.notes = {} ∧ alarmDue (alarmed { enabled := true } .dormant) 2 ∧
    alarmDue (alarmed { enabled := true, action := .windowOpen } .normal) 2 ∧
    alarmDue (alarmed { enabled := true, action := .testLines, lines := 0x40 } .normal) 2 ∧
    ¬ alarmDue (alarmed { enabled := true, time := 1 } .normal) 2 := by
  unfold alarmDue; decide +kernel

/-- The base state has what every step keeps. -/
theorem base_tables : TablesInRange base.tables ∧ TagsDiffer base.tables.forwarding ∧ usableAddress base.tables.mgmt.mgmtAddress = true := by
  refine ⟨?_, ?_, by decide +kernel⟩
  · refine ⟨?_, ?_, by decide, by decide, ?_, by decide, by decide, by decide, by decide, ?_, ?_, ?_, ?_, by decide, by decide⟩
    · unfold ServiceEntry.InRange; decide +kernel
    · unfold Profile.InRange; decide +kernel
    · unfold Forward.InRange; decide +kernel
    · unfold PowerTable.InRange; decide +kernel
    · unfold TestTable.InRange; decide +kernel
    · unfold TimeSettings.InRange; decide +kernel
    · unfold Alarm.InRange; decide +kernel
  · have h : ∀ i : Fin 192, base.tables.forwarding[i].valid = false := by decide +kernel
    intro i j _ hi; rw [h i] at hi; cases hi

/-- The base state with a command waiting. -/
def waiting : State := { base with pending := [.buttonPress] }
theorem waiting_steps : ∃ t, step waiting = .next t := ⟨_, rfl⟩

theorem witness_CellsAreConserved : CellsKept waiting ∧ ∃ t, step waiting = .next t :=
  ⟨by unfold CellsKept; decide +kernel, waiting_steps⟩
theorem witness_TablesStayGood : TablesKept waiting ∧ ∃ t, step waiting = .next t := by
  refine ⟨⟨base_tables.1, base_tables.2.1, base_tables.2.2, ?_, ?_, fun h => by cases h⟩, waiting_steps⟩ <;>
    exact ⟨fun k => by cases k <;> decide +kernel, fun k => by cases k <;> decide +kernel⟩
theorem witness_CommittedPowerStaysWithinBudget : PowerKept waiting ∧ ∃ t, step waiting = .next t := by
  have parked : ∀ l : LineNo, (waiting.line l).state = .parked := by decide +kernel
  refine ⟨⟨by decide +kernel, by decide +kernel, fun l h => ?_, fun l _ _ _ h => ?_, by decide +kernel, by decide +kernel, fun t h => ?_,
    fun h => ?_, fun h => by cases h⟩, waiting_steps⟩
  · rw [parked l] at h; cases h
  · rw [parked l] at h; cases h
  · cases h
  · rcases h with h | h | h <;> cases h
theorem witness_LinesStayGood : TablesKept waiting ∧ PowerKept waiting ∧ LinesKept waiting ∧ ∃ t, step waiting = .next t := by
  have h : ∀ l, waiting.line l = { state := .parked } := by decide +kernel
  refine ⟨witness_TablesStayGood.1, witness_CommittedPowerStaysWithinBudget.1, ⟨fun l => ?_, fun l p hp => ?_, fun l x hx => ?_,
    by decide +kernel, fun f h => by cases h⟩, waiting_steps⟩
  · rw [h l]
    exact ⟨⟨fun h => (by cases h), fun _ => by decide, by decide, by decide, by unfold Counters.Kept; decide⟩, Nat.zero_le _⟩
  · rw [h l] at hp; cases hp
  · rw [h l] at hx; cases hx
/-- Two lines wait for LISTEN, and one of them for a test. -/
def twoWait : State := { waiting with
  power := { waiting.power with wait := [⟨seven, .listen, 0, 4, none⟩, ⟨3, .listen, 1, 2, none⟩], stampCount := 5 }
  test := { queue := [{ line := seven, origins := 1, steps := 15, stamp := 0 }], stampCount := 1 } }
theorem witness_QueuesStayGood : PowerKept twoWait ∧ QueuesKept twoWait ∧ ∃ t, step twoWait = .next t := by
  refine ⟨witness_CommittedPowerStaysWithinBudget.1, ⟨⟨by decide +kernel, by decide +kernel, by decide +kernel, ?_, by decide +kernel,
    fun h => by cases h⟩, ⟨by decide +kernel, by decide +kernel, by decide +kernel, by decide +kernel, by decide +kernel,
    by decide +kernel⟩, by decide +kernel, by decide +kernel, by decide +kernel, by decide +kernel, fun l h => ?_, ?_, by decide +kernel,
    fun h => by cases h⟩, ?_⟩
  · intro e he
    have h : e = ⟨seven, .listen, 0, 4, none⟩ ∨ e = ⟨3, .listen, 1, 2, none⟩ := by simpa [twoWait] using he
    rcases h with rfl | rfl <;> exact ⟨by decide, show (twoWait.line _).state = .parked by decide +kernel⟩
  · revert h; revert l; decide +kernel
  · unfold NoticeKept; decide +kernel
  · exact ⟨_, rfl⟩
/-- A holdoff runs, and its last millisecond is ticked. -/
theorem witness_QueuesStayGood_holdoff : let s := { base with mgmt := { notif := .holdoff, holdoff := 1 }, pending := [.millisecondTick true] }
    s.mgmt.notif = .holdoff ∧ 0 < s.mgmt.holdoff ∧ s.pending.head? = some (.millisecondTick true) := by decide +kernel
/-- R186: the image of an erased flash is bad. -/
theorem test_erased_flash_bad : imageGood (List.replicate 8192 0xFF) = false := by
  have h : decide ((List.replicate 8192 (0xFF : Byte)).take 4 = formatWord) = false := by rw [List.take_replicate]; decide
  unfold imageGood; rw [h, Bool.and_false, Bool.false_and, Bool.false_and]
theorem witness_SavedImageLoadsBack_read : (List.replicate 8192 (0xFF : Byte)).length = 8192 ∧ imageGood goodImage = true :=
  ⟨List.length_replicate, goodImage_good⟩
theorem witness_SavedImageLoadsBack : ∃ i : Image, i.count ≤ 65535 ∧ TablesInRange i.tables ∧ TagsDiffer i.tables.forwarding ∧
    usableAddress i.tables.mgmt.mgmtAddress = true := ⟨⟨65535, base.tables⟩, by decide, base_tables⟩
theorem witness_EntryLayouts : (4294967295 : Nat) < 4294967296 ∧ (65535 : Nat) < 65536 ∧ (0 : Nat) < 256 := by decide

end Sys2Proof.Tests
end

section
/-! # Proofs of the Frame Path and the buffer pool (chapter 3)

The statements write a state with one line's record replaced as `withLine`; the model writes it as `modLine`, and its operations
in terms of that. The lemmas here say once, in the words of the statements, what each operation of the Frame Path does. -/

namespace Sys2Proof.Proofs
open Sys2Proof.Machine Sys2Proof.Claims

/-! ## Counters, and a line replaced -/

theorem satInc_eq_min (limit v : Nat) : satInc limit v = min limit (v + 1) := by
  unfold satInc; split <;> omega

@[simp] theorem withLine_line_self (s : State) (l : LineNo) (x : Line) : (withLine s l x).line l = x :=
  modLine_line_self s l fun _ => x

@[simp] theorem withLine_notes (s : State) (l : LineNo) (x : Line) : (withLine s l x).notes = s.notes := rfl

theorem withLine_same (s : State) (l : LineNo) : withLine s l (s.line l) = s := by
  simp [withLine, State.line]

/-- The state with a line's record, the pool, the notices and the messages replaced: all that the operations of the Frame Path
change, apart from the reshare and the wait entry of a promotion and the event of a shortage. -/
def replaced (u : State) (l : LineNo) (x : Line) (p : Pool) (notes : Notes) (out : List OutMsg) : State :=
  { withLine u l x with pool := p, notes := notes, out := out }

section
variable (u : State) (l : LineNo) (x : Line) (p : Pool) (notes : Notes) (out : List OutMsg)

@[simp] theorem replaced_line : (replaced u l x p notes out).line l = x := withLine_line_self u l x
@[simp] theorem replaced_pool : (replaced u l x p notes out).pool = p := rfl
@[simp] theorem replaced_notes : (replaced u l x p notes out).notes = notes := rfl
@[simp] theorem replaced_out : (replaced u l x p notes out).out = out := rfl

@[simp] theorem replaced_replaced (y : Line) (q : Pool) (notes' : Notes) (out' : List OutMsg) :
    replaced (replaced u l x p notes out) l y q notes' out' = replaced u l y q notes' out' := by
  simp [replaced, withLine]

theorem replaced_same : replaced u l (u.line l) u.pool u.notes u.out = u := by
  simp only [replaced, withLine_same]

end

theorem modLine_eq_replaced (l : LineNo) (f : Line → Line) (u : State) :
    u.modLine l f = replaced u l (f (u.line l)) u.pool u.notes u.out := rfl

theorem dropUp_one (l : LineNo) (s : State) : dropUp l 1 s = withLine s l (droppedUp (s.line l)) := rfl

theorem dropDown_one (l : LineNo) (s : State) : dropDown l 1 s = withLine s l (droppedDown (s.line l)) := rfl

theorem shortage_eq_short (s : State) : shortage s = short s := rfl

@[simp] theorem short_notes (s : State) : (short s).notes = s.notes := by
  simp [← shortage_eq_short]

theorem inService_iff (x : Line) : x.inService = true ↔ x.state = .active ∨ x.state = .idleLow := by
  simp [Line.inService]

/-! ## A line message on a link that is UP (R14, R15) -/

@[simp] theorem onLink_notes (l : LineNo) (s : State) : (onLink l s).notes = {} := rfl

theorem onRun_lineMessage {s : State} {l : LineNo} (h : Hears s l) (act : LineNo → State → State) :
    onRun (lineMessage (linkOf l) (lineNumber l) act) s = .next (closed (act l (onLink l s))) := by
  obtain ⟨hrun, hup⟩ := h
  have heard : linkHeard (linkOf l) (opened s) = onLink l s := if_pos hup
  rw [onRun_run hrun, lineMessage, servedLine_lineNumber]
  exact congrArg (fun u => Host.Outcome.next (closed (act l u))) heard

theorem exec_frameUp {s : State} {l : LineNo} (h : Hears s l) (frame : Bytes) (errored : Bool) :
    exec (.frameUp (linkOf l) (lineNumber l) frame errored) s = .next (closed (judgeUp l frame errored (onLink l s))) :=
  onRun_lineMessage h fun l => judgeUp l frame errored

/-! ## The judgement of a FRAME_UP (R53 to R55) -/

section
variable {s : State} {l : LineNo} {frame : Bytes}

theorem judgeUp_errored : judgeUp l frame true s = withLine s l
    { s.line l with counters := { (s.line l).counters with crcErr := min 65535 ((s.line l).counters.crcErr + 1) } } := by
  rw [← satInc_eq_min]; rfl

theorem judgeUp_before_service (h : (s.line l).state = .listening ∨ (s.line l).state = .training ∨ (s.line l).state = .testing) :
    judgeUp l frame false s = withLine s l (droppedUp (s.line l)) := by
  rw [← dropUp_one]
  rcases h with h | h | h <;> simp [judgeUp, h]

theorem judgeUp_off (h : (s.line l).state = .down ∨ (s.line l).state = .parked ∨ (s.line l).state = .blocked) :
    judgeUp l frame false s = s := by
  rcases h with h | h | h <;> simp [judgeUp, Line.inService, h]

/-- In service the four checks remain, the first three of which drop alike. -/
theorem judgeUp_inService (h : (s.line l).state = .active ∨ (s.line l).state = .idleLow) :
    judgeUp l frame false s =
      if frame.length < 64 || 1532 < frame.length then dropUp l 1 s
      else if (s.service l).upTag = 0 then dropUp l 1 s
      else if (s.service l).upqCells < depth (s.line l).upq + cells (frame.length + 4) then dropUp l 1 s
      else if s.pool.free < cells (frame.length + 4) then short (dropUp l 1 s)
      else acceptUp l frame s := by
  rcases h with h | h <;> simp [judgeUp, Line.inService, h] <;> rfl

theorem judgeUp_unfit (h : (s.line l).state = .active ∨ (s.line l).state = .idleLow) (hfit : ¬ fitsUp s l frame) :
    judgeUp l frame false s = withLine s l (droppedUp (s.line l)) := by
  rw [judgeUp_inService h, ← dropUp_one]
  by_cases hlen : frame.length < 64 ∨ 1532 < frame.length
  · rw [if_pos (by simpa using hlen)]
  by_cases htag : (s.service l).upTag = 0
  · rw [if_pos htag, ite_self]
  have hfull : (s.service l).upqCells < depth (s.line l).upq + cells (frame.length + 4) := by
    by_contra hroom
    exact hfit ⟨by omega, by omega, htag, by omega⟩
  rw [if_pos hfull, ite_self, ite_self]

theorem judgeUp_short (h : (s.line l).state = .active ∨ (s.line l).state = .idleLow) (hfit : fitsUp s l frame)
    (hfree : s.pool.free < cells (frame.length + 4)) :
    judgeUp l frame false s = short (withLine s l (droppedUp (s.line l))) := by
  obtain ⟨hmin, hmax, htag, hroom⟩ := hfit
  rw [judgeUp_inService h, if_neg (by simp; omega), if_neg htag, if_neg (by omega), if_pos hfree, dropUp_one]

end

/-- A judgement that leaves no notice is followed by the arbiter's choice alone. -/
theorem exec_frameUp_quiet {s u : State} {l : LineNo} {frame : Bytes} {errored : Bool} (h : Hears s l)
    (judged : judgeUp l frame errored (onLink l s) = u) (quiet : u.notes = {}) :
    exec (.frameUp (linkOf l) (lineNumber l) frame errored) s = .next (chooseFrame u) := by
  rw [exec_frameUp h, judged, closed_quiet quiet]

/-- Settles O7: each clause is one outcome of `judgeUp`, and none of them leaves a notice for the end of the step. -/
theorem upstreamDrops : Obligations.UpstreamDrops := by
  unfold Obligations.UpstreamDrops
  refine ⟨fun s l frame hears => ?_, fun s l frame hears => ⟨fun h => ?_, fun h => ?_, fun h hfit => ?_, fun h hfit hfree => ?_⟩⟩
  · exact exec_frameUp_quiet hears judgeUp_errored rfl
  · exact exec_frameUp_quiet hears (judgeUp_before_service h) rfl
  · exact exec_frameUp_quiet hears (judgeUp_off h) rfl
  · exact exec_frameUp_quiet hears (judgeUp_unfit h hfit) rfl
  · exact exec_frameUp_quiet hears (judgeUp_short h hfit hfree) (by simp)

/-! ## Cells returned (R51) -/

/-- The pool with `n` cells returned: a return of no cells ends no exhaustion episode. -/
def returned (n : Nat) (p : Pool) : Pool :=
  { p with free := p.free + n, exhausted := p.exhausted && (n = 0 || p.free + n ≤ 64) }

theorem returnCells_eq_returned (n : Nat) (s : State) : returnCells n s = s.setPool (returned n s.pool) := by
  unfold returnCells
  split
  case isTrue h => subst h; simp [returned, State.setPool]
  case isFalse h => simp only [returned, h, decide_false, Bool.false_or]; rfl

theorem returned_zero (p : Pool) : returned 0 p = p := by simp [returned]

/-- Of two returns only the larger count free decides on the episode. -/
theorem returned_returned (m n : Nat) (p : Pool) : returned n (returned m p) = returned (m + n) p := by
  simp only [returned, Pool.mk.injEq, and_true, Nat.add_assoc, true_and, Bool.and_assoc]
  congr 1
  rw [Bool.eq_iff_iff]
  simp
  omega

/-! ## Delivery on READY credit (R62) -/

theorem delivered_eq_replaced (l : LineNo) (u : State) (n : Nat) (h : min (u.line l).ready (u.line l).dnq.length = n) :
    delivered l u = replaced u l { u.line l with ready := (u.line l).ready - n, dnq := (u.line l).dnq.drop n }
      (returned (depth ((u.line l).dnq.take n)) u.pool) u.notes
      (u.out ++ ((u.line l).dnq.take n).map fun f => .frameDown l f.data) := by
  subst h; rfl

/-- No frame is delivered: the queue is empty or the credit is 0. -/
theorem delivered_none {l : LineNo} {u : State} (h : (u.line l).ready = 0 ∨ (u.line l).dnq = []) : delivered l u = u := by
  rw [delivered_eq_replaced l u 0 (by rcases h with h | h <;> simp [h]), List.take_zero, List.map_nil, List.append_nil,
    show depth [] = 0 from rfl, returned_zero]
  exact replaced_same u l

/-- The state with the head frame of a line's downstream queue sent, `fs` being the frames behind it. -/
def headSent (l : LineNo) (f : Frame) (fs : List Frame) (u : State) : State :=
  returnCells f.cells ((u.modLine l fun x => { x with dnq := fs, ready := x.ready - 1 }).emit (.frameDown l f.data))

theorem headSent_eq_replaced (l : LineNo) (f : Frame) (fs : List Frame) (u : State) :
    headSent l f fs u = replaced u l { u.line l with dnq := fs, ready := (u.line l).ready - 1 } (returned f.cells u.pool)
      u.notes (u.out ++ [.frameDown l f.data]) := by
  rw [headSent, returnCells_eq_returned]; rfl

/-- Delivery takes the head frame first. -/
theorem delivered_cons {l : LineNo} {u : State} {f : Frame} {fs : List Frame} {n : Nat} (hr : (u.line l).ready = n + 1)
    (hq : (u.line l).dnq = f :: fs) : delivered l u = delivered l (headSent l f fs u) := by
  rw [headSent_eq_replaced, delivered_eq_replaced l u (min n fs.length + 1) (by simp [hr, hq]),
    delivered_eq_replaced l _ (min n fs.length) (by simp [hr]), replaced_replaced]
  have cells : depth (f :: fs.take (min n fs.length)) = f.cells + depth (fs.take (min n fs.length)) := by simp [depth]
  simp [hr, hq, cells, returned_returned]

theorem deliver_eq_delivered (l : LineNo) (n : Nat) (u : State) (h : (u.line l).ready = n) : deliver l n u = delivered l u := by
  induction n generalizing u with
  | zero => exact (delivered_none (.inl h)).symm
  | succ n ih =>
    cases hq : (u.line l).dnq with
    | nil => simp [deliver, hq, delivered_none]
    | cons f fs =>
      have rest : deliver l n (headSent l f fs u) = delivered l (headSent l f fs u) :=
        ih _ (by simp [headSent_eq_replaced, h])
      rw [delivered_cons h hq, ← rest]
      simp [deliver, hq, headSent]

theorem deliverReady_eq_delivered (l : LineNo) (u : State) : deliverReady l u = delivered l u :=
  deliver_eq_delivered l _ u rfl

@[simp] theorem delivered_notes (l : LineNo) (u : State) : (delivered l u).notes = u.notes := rfl

end Sys2Proof.Proofs
end

section
/-! # Proofs: frames from the terminal (R58 to R62) -/

namespace Sys2Proof.Proofs
open Sys2Proof.Machine Sys2Proof.Claims

/-! ## The fields of an uplink frame (section 12.2) -/

theorem beNat_lt (bs : Bytes) : beNat bs < 256 ^ bs.length := by
  induction bs using List.reverseRecOn with
  | nil => simp [beNat]
  | append_singleton bs b ih =>
    have hb : beNat [b] < 256 := by simpa [beNat] using b.isLt
    rw [beNat_append, List.length_append, List.length_singleton, pow_one, pow_succ]
    omega

/-- A field that lies whole within a run of bytes is the number its bytes spell. -/
theorem field_inside {bs : Bytes} {offset w : Nat} (h : offset + w ≤ bs.length) :
    field bs offset w = beNat ((bs.drop offset).take w) := by
  have hw : w ≤ (bs.drop offset).length := by rw [List.length_drop]; omega
  simp [field, List.length_take_of_le hw]

theorem frameType_eq_some (f : Bytes) (ty : Nat) : frameType f = some ty ↔ typeIs f ty := by
  unfold frameType typeIs
  by_cases h : 14 ≤ f.length
  · simp [h, field_inside (bs := f) (offset := 12) (w := 2) h]
  · simp [h]

/-- R59: the model's test for a request is the statements' one. -/
theorem isRequest_iff (f : Bytes) (s : State) : isRequest f s = true ↔ isMgmt s f := by
  unfold isRequest isMgmt
  rw [Bool.and_eq_true, decide_eq_true_iff, decide_eq_true_iff, frameType_eq_some]
  refine and_congr_left fun ⟨hlen, _⟩ => ?_
  have hfield : field f 0 6 = beNat (f.take 6) := field_inside (by omega)
  have hlt : beNat (f.take 6) < 2 ^ 48 :=
    (beNat_lt _).trans_le (by rw [List.length_take_of_le (by omega)]; norm_num)
  rw [frameDest, hfield, ← BitVec.toNat_inj, BitVec.toNat_ofNat, Nat.mod_eq_of_lt hlt]

theorem frameTag_eq_some {f : Bytes} (h : 16 ≤ f.length) (t : Nat) :
    frameTag f = some t ↔ typeIs f 0x9A30 ∧ beNat ((f.drop 14).take 2) % 4096 = t := by
  unfold frameTag
  rw [← frameType_eq_some, ← field_inside h, show 0x9A30 = tagType from rfl]
  by_cases hty : frameType f = some tagType
  · simp [hty, h]
  · simp [hty]

/-! ## The Forwarding Table (R60, R63) -/

theorem lineOf_eq_some {n : Nat} {l : LineNo} : lineOf n = some l ↔ n = lineNumber l := by
  constructor
  · intro h
    unfold lineOf at h
    split at h
    case isTrue hn => cases h; exact (Nat.sub_add_cancel hn.1).symm
    case isFalse => cases h
  · rintro rfl; exact lineOf_lineNumber l

/-- In a good table the first valid entry that holds a tag is the only one, so it names the line of any of them. -/
theorem lookupTag_eq_some {s : State} (good : forwardingGood s.tables.forwarding) (t : Nat) (l : LineNo) :
    lookupTag s t = some l ↔ ∃ i : Fin 192, s.tables.forwarding[i].valid = true ∧ s.tables.forwarding[i].tag = t ∧
      s.tables.forwarding[i].line = lineNumber l := by
  have found : ∀ e, s.tables.forwarding.toList.find? (fun e => e.valid && e.tag = t) = some e →
      ∃ i : Fin 192, s.tables.forwarding[i] = e ∧ e.valid = true ∧ e.tag = t := by
    intro e he
    obtain ⟨i, hi, rfl⟩ := List.mem_iff_getElem.mp (List.mem_of_find?_eq_some he)
    exact ⟨⟨i, by simpa using hi⟩, by simp, by simpa using List.find?_some he⟩
  unfold lookupTag
  constructor
  · intro h
    split at h
    next e he =>
      obtain ⟨i, rfl, hv, ht⟩ := found e he
      exact ⟨i, hv, ht, lineOf_eq_some.mp h⟩
    next => cases h
  · rintro ⟨i, hv, ht, hl⟩
    obtain ⟨e, he⟩ : ∃ e, s.tables.forwarding.toList.find? (fun e => e.valid && e.tag = t) = some e := by
      rw [← Option.isSome_iff_exists, List.find?_isSome]
      exact ⟨s.tables.forwarding[i], by simp, by simpa using ⟨hv, ht⟩⟩
    obtain ⟨j, rfl, hjv, hjt⟩ := found e he
    have hij : i = j := by_contra fun hne => good.1 i j hne hv hjv (ht.trans hjt.symm)
    subst hij
    rw [he]
    exact lineOf_eq_some.mpr hl

/-- The line a subscriber frame is for. -/
theorem taggedLine_eq_some {s : State} {f : Bytes} (good : forwardingGood s.tables.forwarding) (h : 16 ≤ f.length) (l : LineNo) :
    (frameTag f).bind (lookupTag s) = some l ↔ tagged s f l := by
  simp only [Option.bind_eq_some_iff, frameTag_eq_some h, lookupTag_eq_some good, tagged]
  constructor
  · rintro ⟨t, ⟨hty, rfl⟩, entry⟩; exact ⟨hty, entry⟩
  · rintro ⟨hty, entry⟩; exact ⟨_, ⟨hty, rfl⟩, entry⟩

/-! ## The judgement of a frame from the terminal (R58 to R60) -/

section
variable {s : State} {f : Bytes} {l : LineNo}

theorem receiveFrame_oversize (up : s.uplink.up = true) (h : 1536 < f.length) :
    receiveFrame f s = { s with pool := { s.pool with oversize := min 4294967295 (s.pool.oversize + 1) } } := by
  rw [← satInc_eq_min]
  simp [receiveFrame, up, h, State.setPool]

theorem receiveFrame_subscriber (up : s.uplink.up = true) (h : isSubscriber s f) : receiveFrame f s = judgeDown f s := by
  obtain ⟨hlen, hmgmt, hterm⟩ := h
  have hreq : ¬ isRequest f s = true := fun hr => hmgmt ((isRequest_iff f s).mp hr)
  have htype : ¬ frameType f = some terminalType := fun ht => hterm ((frameType_eq_some f _).mp ht)
  unfold receiveFrame
  rw [if_neg (by simp [up]), if_neg (by omega), if_neg hreq, if_neg htype]

theorem judgeDown_undersize (h : f.length < 68) :
    judgeDown f s = { s with pool := { s.pool with undersize := min 4294967295 (s.pool.undersize + 1) } } := by
  rw [← satInc_eq_min]
  simp [judgeDown, h, State.setPool]

theorem judgeDown_unknownTag (good : forwardingGood s.tables.forwarding) (h : 68 ≤ f.length) (hno : ∀ l, ¬ tagged s f l) :
    judgeDown f s = { s with pool := { s.pool with unknownTag := min 4294967295 (s.pool.unknownTag + 1) } } := by
  have unnamed : (frameTag f).bind (lookupTag s) = none :=
    Option.eq_none_iff_forall_ne_some.mpr fun l hl => hno l ((taggedLine_eq_some good (by omega) l).mp hl)
  rw [← satInc_eq_min]
  simp [judgeDown, Nat.not_lt.mpr h, unnamed, State.setPool]

/-- For a known line three checks remain, the first two of which drop alike. -/
theorem judgeDown_tagged (good : forwardingGood s.tables.forwarding) (h : 68 ≤ f.length) (hl : tagged s f l) :
    judgeDown f s =
      if !(s.line l).inService then dropDown l 1 s
      else if (s.service l).dnqCells < depth (s.line l).dnq + cells (f.length - 4) then dropDown l 1 s
      else if s.pool.free < cells (f.length - 4) then short (dropDown l 1 s)
      else acceptDown l f s := by
  have line : (frameTag f).bind (lookupTag s) = some l := (taggedLine_eq_some good (by omega) l).mpr hl
  simp only [judgeDown, if_neg (Nat.not_lt.mpr h), line]
  rfl

theorem judgeDown_unfit (good : forwardingGood s.tables.forwarding) (h : 68 ≤ f.length) (hl : tagged s f l)
    (hfit : ¬ fitsDown s l f) : judgeDown f s = withLine s l (droppedDown (s.line l)) := by
  rw [judgeDown_tagged good h hl, ← dropDown_one]
  by_cases hserv : (s.line l).inService = true
  · have hfull : (s.service l).dnqCells < depth (s.line l).dnq + cells (f.length - 4) := by
      by_contra hroom
      exact hfit ⟨(inService_iff _).mp hserv, by omega⟩
    rw [if_pos hfull, ite_self]
  · rw [if_pos (by simpa using hserv)]

/-- The line takes the frame: what is left to judge is the room in the pool. -/
theorem judgeDown_fit (good : forwardingGood s.tables.forwarding) (h : 68 ≤ f.length) (hl : tagged s f l)
    (hfit : fitsDown s l f) : judgeDown f s =
      if s.pool.free < cells (f.length - 4) then short (withLine s l (droppedDown (s.line l))) else acceptDown l f s := by
  obtain ⟨hserv, hroom⟩ := hfit
  rw [judgeDown_tagged good h hl, if_neg (by simp [(inService_iff _).mpr hserv]), if_neg (by omega), dropDown_one]

end

/-- A frame whose reception leaves no notice is followed by the arbiter's choice alone. -/
theorem exec_downstreamFrame_quiet {s u : State} {f : Bytes} (run : s.stage = .run) (received : receiveFrame f (opened s) = u)
    (quiet : u.notes = {}) : exec (.downstreamFrame f) s = .next (chooseFrame u) := by
  have he : exec (.downstreamFrame f) s = .next (closed (receiveFrame f (opened s))) := onRun_run run
  rw [he, received, closed_quiet quiet]

/-- Settles O22: each clause is one drop of `receiveFrame` or `judgeDown`, and none of them leaves a notice. -/
theorem downstreamDrops : Obligations.DownstreamDrops := by
  unfold Obligations.DownstreamDrops
  intro s f run up good
  have judged (sub : isSubscriber s f) : receiveFrame f (opened s) = judgeDown f (opened s) := receiveFrame_subscriber up sub
  refine ⟨fun long => ?_, fun sub hshort => ?_, fun sub hlen hno => ?_, fun l sub hlen hl hfit => ?_,
    fun l sub hlen hl hfit hfree => ?_⟩
  · exact exec_downstreamFrame_quiet run (receiveFrame_oversize up long) rfl
  · exact exec_downstreamFrame_quiet run ((judged sub).trans (judgeDown_undersize hshort)) rfl
  · exact exec_downstreamFrame_quiet run ((judged sub).trans (judgeDown_unknownTag good hlen hno)) rfl
  · exact exec_downstreamFrame_quiet run ((judged sub).trans (judgeDown_unfit good hlen hl hfit)) rfl
  · exact exec_downstreamFrame_quiet run
      ((judged sub).trans ((judgeDown_fit (s := opened s) good hlen hl hfit).trans (if_pos hfree))) (by simp)

end Sys2Proof.Proofs
end

section
/-! # Proofs: promotion after a frame (R19), and the accepted downstream frame (R61) -/

namespace Sys2Proof.Proofs
open Sys2Proof.Machine Sys2Proof.Claims

/-! ## Admission with one line replaced (R112, R115) -/

theorem costs_set {u : State} {l : LineNo} {x : Line} (h : x.cost = (u.line l).cost) :
    (u.lines.set l x).toList.map Line.cost = u.lines.toList.map Line.cost := by
  have cost : (u.line l).cost = (u.lines.toList.map Line.cost)[l.val]'(by simp) := by simp [State.line]
  rw [Vector.toList_set, List.map_set, h, cost, List.set_getElem_self]

/-- An admission depends on the costs of the lines, the Power Controller and the budgets. -/
theorem admits_congr {u v : State} (power : u.power = v.power) (tables : u.tables = v.tables)
    (costs : u.lines.toList.map Line.cost = v.lines.toList.map Line.cost) (given new : Nat) :
    admits given new u = admits given new v := by
  have account : committed u = committed v := by unfold committed; rw [costs, power]
  have limit : budget u = budget v := by unfold budget; rw [power, tables]
  have dormant : u.dormant = v.dormant := by unfold State.dormant; rw [power]
  unfold admits
  rw [account, limit, dormant]

/-! ## Cost and mode -/

theorem setCost_eq_replaced (l : LineNo) (c : Nat) (u : State) :
    setCost l c u = replaced u l { u.line l with cost := c } u.pool
      { u.notes with scan := u.notes.scan || decide (c < (u.line l).cost) } u.out := by
  unfold setCost
  by_cases h : c < (u.line l).cost
  · simp only [if_pos h, decide_eq_true h, Bool.or_true]; rfl
  · simp only [if_neg h, decide_eq_false h, Bool.or_false]; rfl

theorem setMode_eq_replaced (l : LineNo) (m : LineMode) (u : State) :
    setMode l m u = replaced u l { u.line l with mode := m } u.pool u.notes
      (u.out ++ if (u.line l).mode = m then [] else [.lineMode l m]) := by
  unfold setMode
  by_cases h : (u.line l).mode = m
  · subst h
    rw [if_pos rfl, if_pos rfl, List.append_nil]
    exact (replaced_same u l).symm
  · rw [if_neg h, if_neg h]; rfl

/-! ## Promotion after a frame has been queued (R19) -/

/-- A queue of the line is deeper than promote_cells. -/
def isDeep (u : State) (l : LineNo) : Prop :=
  u.tables.power.promoteCells < depth (u.line l).upq ∨ u.tables.power.promoteCells < depth (u.line l).dnq

section
variable {u : State} {l : LineNo} {p : ProfileNo}

theorem promote_eq_promoted (hp : (u.line l).running = some p) : promote l u = promoted l p u := by
  simp only [promote, hp, setCost_eq_replaced, setMode_eq_replaced, modLine_eq_replaced, replaced_replaced, replaced_line,
    replaced_pool, replaced_notes, replaced_out]
  rw [← hp]; rfl

@[simp] theorem promoted_notes_restart (u : State) (l : LineNo) (p : ProfileNo) :
    (promoted l p u).notes.restart = u.notes.restart := by
  simp [promoted]

/-- R19's condition, as the model tests it. -/
theorem promotionDue_iff (u : State) (l : LineNo) : ((u.line l).state = .idleLow && (waitKind u l).isNone &&
    (u.tables.power.promoteCells < depth (u.line l).upq || u.tables.power.promoteCells < depth (u.line l).dnq)) = true ↔
      (u.line l).state = .idleLow ∧ waitKind u l = none ∧ isDeep u l := by
  simp [isDeep, and_assoc]

theorem promoteIfDeep_not_due (h : ¬ ((u.line l).state = .idleLow ∧ waitKind u l = none ∧ isDeep u l)) :
    promoteIfDeep l u = u := by
  cases hp : (u.line l).running with
  | none => simp only [promoteIfDeep, hp]
  | some p =>
    simp only [promoteIfDeep, hp]
    exact if_neg (mt (promotionDue_iff u l).mp h)

/-- R19: the request for PROMOTE, granted or entered in the Power Wait Queue. -/
theorem promoteIfDeep_due (hp : (u.line l).running = some p)
    (h : (u.line l).state = .idleLow ∧ waitKind u l = none ∧ isDeep u l) : promoteIfDeep l u =
      if admits (u.line l).cost (u.profile p).activeMw u then promoted l p u else addWait l .promote none u := by
  simp only [promoteIfDeep, hp, promote_eq_promoted hp]
  exact if_pos ((promotionDue_iff u l).mpr h)

end

/-! ## The accepted frame (R61) -/

section
variable {s : State} {l : LineNo} {f : Bytes}

@[simp] theorem acceptedDown_notes : (acceptedDown l f s).notes = {} := rfl

theorem acceptedDown_line : (acceptedDown l f s).line l = { s.line l with
    dnq := (s.line l).dnq ++ [⟨f.take 12 ++ f.drop 16, none⟩]
    counters := { (s.line l).counters with framesDown := min 4294967295 ((s.line l).counters.framesDown + 1) }
    lastFrame := some s.time.now
    idle := if (s.line l).state = .active then .running 0 else (s.line l).idle } := withLine_line_self ..

theorem acceptedDown_state : ((acceptedDown l f s).line l).state = (s.line l).state := by rw [acceptedDown_line]
theorem acceptedDown_running : ((acceptedDown l f s).line l).running = (s.line l).running := by rw [acceptedDown_line]
theorem acceptedDown_cost : ((acceptedDown l f s).line l).cost = (s.line l).cost := by rw [acceptedDown_line]

theorem admits_acceptedDown (given new : Nat) : admits given new (acceptedDown l f s) = admits given new s :=
  admits_congr (u := acceptedDown l f s) (v := s) rfl rfl (costs_set rfl) given new

/-- The frame joins the queue without its tag, which is what it takes of the pool; then R19 is looked at, then R62. -/
theorem acceptDown_opened (h : 16 ≤ f.length) :
    acceptDown l f (opened s) = delivered l (promoteIfDeep l (acceptedDown l f s)) := by
  have held : Frame.cells ⟨removeTag f, none⟩ = cells (f.length - 4) := by
    have len : (removeTag f).length = f.length - 4 := by simp [removeTag]; omega
    rw [Frame.cells, len]; rfl
  rw [acceptDown, deliverReady_eq_delivered]
  simp only [held, satInc_eq_min]
  rfl

end

theorem exec_downstreamFrame_accepted {s : State} {f : Bytes} {l : LineNo} (run : s.stage = .run) (up : s.uplink.up = true)
    (good : forwardingGood s.tables.forwarding) (sub : isSubscriber s f) (hlen : 68 ≤ f.length) (hl : tagged s f l)
    (hfit : fitsDown s l f) (hfree : cells (f.length - 4) ≤ s.pool.free) :
    exec (.downstreamFrame f) s = .next (closed (delivered l (promoteIfDeep l (acceptedDown l f s)))) := by
  have taken : receiveFrame f (opened s) = acceptDown l f (opened s) :=
    (receiveFrame_subscriber (s := opened s) up sub).trans
      ((judgeDown_fit (s := opened s) good hlen hl hfit).trans (if_neg (Nat.not_lt.mpr hfree)))
  rw [← acceptDown_opened (by omega), ← taken]
  exact onRun_run run

/-- Settles O23: the frame is accepted; then R19 either asks for nothing, and no notice is left, or for PROMOTE, whose grant may
leave a scan but never a restart for the end of the step. -/
theorem downstreamAccepted : Obligations.DownstreamAccepted := by
  unfold Obligations.DownstreamAccepted
  intro s f l p run up good sub hlen hl hfit hfree hp
  have accepted := exec_downstreamFrame_accepted run up good sub hlen hl hfit hfree
  refine ⟨fun h => ?_, fun idle deep free => ?_⟩
  · have notDue : ¬ (((acceptedDown l f s).line l).state = .idleLow ∧ waitKind s l = none ∧ isDeep (acceptedDown l f s) l) := by
      rw [acceptedDown_state]
      rintro ⟨idle, free, deep⟩
      rcases h with active | shallow | held
      · rw [active] at idle; cases idle
      · exact shallow deep
      · rw [free] at held; cases held
    rw [accepted, promoteIfDeep_not_due notDue, closed_quiet rfl]
  · rw [accepted, promoteIfDeep_due (acceptedDown_running.trans hp) ⟨acceptedDown_state.trans idle, free, deep⟩,
      acceptedDown_cost, admits_acceptedDown, closed_settle (by split <;> simp)]
    rfl

end Sys2Proof.Proofs
end

section
/-! # Proofs: the installation of a completed reshare (R84), with the account of the share computation (R86 to R89) -/

namespace Sys2Proof.Proofs
open Sys2Proof.Machine

/-! ## Sums of parts rounded down -/

theorem sum_map_div_le (xs : List Nat) (r w : Nat) : (xs.map fun x => r * x / w).sum ≤ r * xs.sum / w := by
  induction xs with
  | nil => simp
  | cons x xs ih =>
    simp only [List.map_cons, List.sum_cons, Nat.mul_add]
    exact (Nat.add_le_add_left ih _).trans (Nat.div_add_div_le_add_div ..)

/-- What is shared out in proportion to the weights, each part rounded down, is no more than there is. -/
theorem sum_map_share_le (xs : List Nat) (r : Nat) : (xs.map fun x => r * x / xs.sum).sum ≤ r :=
  (sum_map_div_le xs r xs.sum).trans (Nat.div_le_of_le_mul (Nat.mul_comm r xs.sum).le)

/-! ## The rounds of the water-filling (R88) -/

theorem sum_tentative_le (fs : List Filling) (r : Nat) :
    ((fs.filter Filling.below).map fun f => f.tentative r (weightSum fs)).sum ≤ r := by
  simpa [weightSum, Filling.tentative, Function.comp_def] using sum_map_share_le ((fs.filter Filling.below).map Filling.weight) r

theorem saturates_iff {f : Filling} {r w : Nat} :
    f.saturates r w = true ↔ f.below = true ∧ f.ceiling - f.amount ≤ f.tentative r w := by
  simp [Filling.saturates]

/-- A line saturates when its share would fill its headroom, so the headrooms filled are covered by the shares. -/
theorem saturatedSum_le (fs : List Filling) (r w : Nat) :
    saturatedSum fs r w ≤ ((fs.filter Filling.below).map fun f => f.tentative r w).sum := by
  unfold saturatedSum
  induction fs with
  | nil => simp
  | cons f fs ih =>
    by_cases hs : f.saturates r w = true
    · obtain ⟨hb, fills⟩ := saturates_iff.mp hs
      simpa [List.filter_cons, hs, hb] using Nat.add_le_add fills ih
    · simp only [List.filter_cons, hs, if_false, Bool.false_eq_true]
      split
      · exact ih.trans (Nat.le_add_left ..)
      · exact ih

/-- When a round raises the amounts of some lines, the sum of the amounts grows by what those lines are given. -/
theorem sum_amount_raised {p : Filling → Bool} {raised : Filling → Filling} {given : Filling → Nat}
    (amount : ∀ f, p f = true → (raised f).amount = f.amount + given f) (fs : List Filling) :
    ((fs.map fun f => if p f then raised f else f).map Filling.amount).sum =
      (fs.map Filling.amount).sum + ((fs.filter p).map given).sum := by
  induction fs with
  | nil => rfl
  | cons f fs ih =>
    by_cases hp : p f = true
    · simp only [List.map_cons, List.sum_cons, List.filter_cons, hp, if_true, ih, amount f hp]; omega
    · simp only [List.map_cons, List.sum_cons, List.filter_cons, hp, if_false, ih, Bool.false_eq_true]; omega

theorem waterFill_line (fuel : Nat) (fs : List Filling) (r : Nat) :
    (waterFill fuel fs r).1.map Filling.line = fs.map Filling.line := by
  have kept {round : Filling → Filling} (line : ∀ f, (round f).line = f.line) (fs : List Filling) :
      (fs.map round).map Filling.line = fs.map Filling.line := by
    rw [List.map_map]; exact List.map_congr_left fun f _ => line f
  fun_induction waterFill fuel fs r with
  | case1 => rfl
  | case2 => rfl
  | case3 fuel fs r _ w _ ih => exact ih.trans (kept (fun f => by split <;> rfl) fs)
  | case4 fuel fs r _ w _ => exact kept (fun f => by split <;> rfl) fs

/-- The rounds share out the remainder: what the amounts gain, the remainder loses. -/
theorem waterFill_sum (fuel : Nat) (fs : List Filling) (r : Nat) :
    ((waterFill fuel fs r).1.map Filling.amount).sum + (waterFill fuel fs r).2 = (fs.map Filling.amount).sum + r := by
  fun_induction waterFill fuel fs r with
  | case1 => rfl
  | case2 => rfl
  | case3 fuel fs r _ w _ ih =>
    have filled (f : Filling) (h : f.saturates r w = true) : f.ceiling = f.amount + (f.ceiling - f.amount) :=
      (Nat.add_sub_cancel' (Nat.le_of_lt (of_decide_eq_true (saturates_iff.mp h).1))).symm
    have covered : saturatedSum fs r w ≤ r := (saturatedSum_le fs r w).trans (sum_tentative_le fs r)
    rw [ih, sum_amount_raised filled, Nat.add_assoc, ← saturatedSum, Nat.add_sub_cancel' covered]
  | case4 fuel fs r _ w _ =>
    rw [sum_amount_raised (fun _ _ => rfl), Nat.add_assoc, Nat.add_sub_cancel' (sum_tentative_le fs r)]

/-! ## The share computation (R86, R87, R89) -/

theorem computeShare_lines (lines : List ShareInput) (c : Nat) :
    (computeShare lines c).amounts.map Prod.fst = lines.map ShareInput.line := by
  unfold computeShare
  dsimp only
  split
  · simp [Function.comp_def]
  · simpa [Function.comp_def] using waterFill_line (lines.length + 1) (lines.map fun i => ⟨i.line, i.weight, i.ceiling, i.clamped⟩) _

/-- The amounts and the spare make the capacity. -/
theorem computeShare_sum (lines : List ShareInput) (c : Nat) :
    ((computeShare lines c).amounts.map Prod.snd).sum + (computeShare lines c).spare = c := by
  unfold computeShare
  dsimp only
  split
  case isTrue =>
    refine Nat.add_sub_cancel' ?_
    simpa [Function.comp_def, Nat.mul_comm c] using sum_map_share_le (lines.map ShareInput.clamped) c
  case isFalse enough =>
    simpa [Function.comp_def, Nat.add_sub_cancel' (Nat.not_lt.mp enough)] using
      waterFill_sum (lines.length + 1) (lines.map fun i => ⟨i.line, i.weight, i.ceiling, i.clamped⟩) (c - (lines.map ShareInput.clamped).sum)

/-! ## The installation (R84) -/

section
variable {f : Flight} {r : ShareResult} {s : State} {l : LineNo}

theorem installed_of_mem {a : Nat} (nodup : (r.amounts.map Prod.fst).Nodup) (h : (l, a) ∈ r.amounts) :
    installed f r s l = if mem f.departed l = false ∧ (s.line l).inService = true then min a (s.line l).ceiling else 0 := by
  have found : r.amounts.find? (fun b => b.1 = l) = some (l, a) := by
    obtain ⟨b, hb⟩ : ∃ b, r.amounts.find? (fun b => b.1 = l) = some b := by
      rw [← Option.isSome_iff_exists, List.find?_isSome]
      exact ⟨_, h, decide_eq_true rfl⟩
    have same : b = (l, a) := List.inj_on_of_nodup_map nodup (List.mem_of_find?_eq_some hb) h (by simpa using List.find?_some hb)
    rw [hb, same]
  unfold installed
  rw [found]
  cases mem f.departed l <;> cases (s.line l).inService <;> rfl

theorem installed_of_not_mem (h : l ∉ r.amounts.map Prod.fst) : installed f r s l = 0 := by
  have absent : r.amounts.find? (fun b => b.1 = l) = none :=
    List.find?_eq_none.mpr fun b hb hl => h (List.mem_map.mpr ⟨b, hb, by simpa using hl⟩)
  unfold installed
  rw [absent]

theorem installed_le {a : Nat} (nodup : (r.amounts.map Prod.fst).Nodup) (h : (l, a) ∈ r.amounts) : installed f r s l ≤ a := by
  rw [installed_of_mem nodup h]
  split
  · exact min_le_left ..
  · exact Nat.zero_le a

end

/-- A sum over all lines in which only the lines of a list count. -/
theorem sum_lines_eq {g : LineNo → Nat} {ls : List LineNo} (nodup : ls.Nodup) (out : ∀ l, l ∉ ls → g l = 0) :
    ((List.finRange 48).map g).sum = (ls.map g).sum := by
  rw [← Fin.sum_univ_def, ← List.sum_toFinset g nodup]
  exact (Finset.sum_subset (Finset.subset_univ _) fun l _ hl => out l (mt List.mem_toFinset.mpr hl)).symm

/-- What is not installed of the amounts joins the spare, so that allocations and spare make what amounts and spare made. -/
theorem installed_sum {f : Flight} {r : ShareResult} {s : State} (nodup : (r.amounts.map Prod.fst).Nodup) :
    ((List.finRange 48).map (installed f r s)).sum + (r.spare + (r.amounts.map fun a => a.2 - installed f r s a.1).sum) =
      (r.amounts.map Prod.snd).sum + r.spare := by
  have placed : ((List.finRange 48).map (installed f r s)).sum = (r.amounts.map fun a => installed f r s a.1).sum := by
    rw [sum_lines_eq nodup fun l => installed_of_not_mem, List.map_map]; rfl
  have rejoined : (r.amounts.map fun a => installed f r s a.1 + (a.2 - installed f r s a.1)).sum = (r.amounts.map Prod.snd).sum :=
    congrArg List.sum (List.map_congr_left fun a ha => Nat.add_sub_cancel' (installed_le nodup ha))
  rw [placed, ← rejoined, List.sum_map_add]
  omega

theorem triggerReshare_of_no_flight {s : State} (h : s.share.flight = none) : triggerReshare s = startReshare s := by
  simp [triggerReshare, h]

/-- Settles O29: the allocations are `installed`, the spare what the computation left with what was not installed of the amounts. -/
theorem reshareInstalls : Obligations.ReshareInstalls := by
  unfold Obligations.ReshareInstalls
  intro s run f flight nodup r
  have lines : r.amounts.map Prod.fst = f.lines.map ShareInput.line := computeShare_lines f.lines f.c
  rw [← lines] at nodup ⊢
  refine ⟨installed f r s, r.spare + (r.amounts.map fun a => a.2 - installed f r s a.1).sum,
    fun l a h => installed_of_mem nodup h, fun l h => installed_of_not_mem h,
    (installed_sum nodup).trans (computeShare_sum f.lines f.c), ?_⟩
  intro u v
  have quiet : v.notes = {} := by simp only [v]; split <;> simp [u]
  have landed : v.share.flight = none := by simp only [v]; split <;> simp [u]
  have raised : v = if r.oversubscribed && !s.share.oversubscribed then raisePart .oversubscribed u else u := by
    simp only [v, Bool.and_eq_true, Bool.not_eq_true']
  have complete : completeReshare (opened s) = if s.share.again then triggerReshare v else v := by
    have flying : completeReshare (opened s) = installShare f (opened s) := by
      rw [completeReshare, opened_share, flight]
    rw [flying, triggerReshare_of_no_flight landed, raised]
    rfl
  have step : exec .reshareCompletion s = .next (closed (completeReshare (opened s))) := onRun_run run
  rw [step, complete, closed_quiet (by split <;> simp [quiet])]

end Sys2Proof.Proofs
end

section
/-! # Proofs: the results of a measurement (R141, R143, R150, R152 to R156)

The model takes a result by changing the current test in place and going on from there; the statements give the test record that
the bus goes on with, in `commanded` or `restoring`. `holding` stands between the two: the state with a given test record. -/

namespace Sys2Proof.Proofs
open Sys2Proof.Machine Sys2Proof.Claims

/-! ## The bus goes on with a test record -/

/-- The state with the current test record replaced. -/
def holding (t : CurrentTest) (u : State) : State := u.setTest { u.test with current := some t }

theorem modTest_setVerdict_holding (v : Verdict) (t : CurrentTest) (u : State) :
    modTest (setVerdict v) (holding t u) = holding (verdicted v t) u := by
  have verdict : setVerdict v t = verdicted v t := by
    unfold setVerdict verdicted
    cases t.verdict <;> rfl
  rw [← verdict]; rfl

theorem skipPending_eq : skipPending = fun o => match o with
    | .pending => .skipped
    | .notRun => .notRun
    | .done => .done
    | .timedOut => .timedOut
    | .skipped => .skipped := by
  funext o; cases o <;> rfl

/-- R144: the entry to RESTORE. -/
theorem enterRestore_holding (t : CurrentTest) (u : State) : enterRestore (holding t u) = restoring t u := by
  simp only [enterRestore, holding, setTest_test, skipPending_eq]; rfl

theorem nextPending_eq (o : Outcomes) : o.nextPending =
    if o.foreignV = .pending then some .foreignV
    else if o.loopR = .pending then some .loopR
    else if o.cap = .pending then some .cap
    else if o.insul = .pending then some .insul
    else none := by
  simp only [Outcomes.nextPending, Outcomes.get, List.find?_cons, List.find?_nil]
  split_ifs <;> simp [*]

/-- R141: the next step, or RESTORE. -/
theorem nextStep_holding (t : CurrentTest) {u : State} (bus : u.test.bus = .measure) :
    nextStep (holding t u) = commanded t u := by
  have next : nextStep (holding t u) = match t.outcomes.nextPending with
      | some k => (holding { t with current := some k, stageTimer := u.tables.test.measureMs } u).emit (.measure t.req.line k)
      | none => enterRestore (holding t u) := rfl
  rw [next, nextPending_eq, enterRestore_holding]
  simp only [commanded, ← bus]
  split_ifs <;> rfl

/-! ## What a result leaves in the test record -/

/-- The test record with the result of a step: DONE, no step outstanding, no timeout in a row, and the values stored. -/
def recorded (m : Measurement) (j : Judgement) (t : CurrentTest) : CurrentTest :=
  { t with outcomes := t.outcomes.put (stepOf m) .done, current := none, timeouts := 0
           values := storeValues m j.capPerKm t.values }

/-- R153: the loop resistance and the open flag. -/
theorem loopResistance_eq (vs i : Nat) :
    loopResistance vs i = (if i = 0 then 9999999 else min 9999999 (vs * 1000 / i), decide (i = 0)) := by
  unfold loopResistance
  split <;> simp [*, Config.resistanceMax]

theorem hazardous_foreignV (a b c : Int) (mv : Nat) : hazardous (.foreignV a b c) mv = true ↔
    mv ≤ (clampVoltage a).natAbs ∨ mv ≤ (clampVoltage b).natAbs ∨ mv ≤ (clampVoltage c).natAbs := by
  simp [hazardous, or_assoc]

section
variable {m : Measurement} {t : CurrentTest} {j : Judgement} {u : State}

/-- R143: only a FOREIGN_V result shows a hazard, which halts the test. -/
theorem takeResult_hazard (h : hazardous m j.hazardMv = true) :
    takeResult m t j u = restoring (verdicted .hazard (recorded m j t)) u := by
  rw [← enterRestore_holding, ← modTest_setVerdict_holding]
  cases m with
  | foreignV a b c => exact if_pos h
  | loopR | cap | insul => cases h

/-- A CAP result is delivered to the line (R156), and the test goes on (R141). -/
theorem takeResult_cap (c : Int) (bus : u.test.bus = .measure) : takeResult (.cap c) t j u = commanded (recorded (.cap c) j t)
    (withLine u t.req.line { u.line t.req.line with loopLength := (recorded (.cap c) j t).values.length }) :=
  nextStep_holding (u := withLine u t.req.line _) _ bus

/-- Any other result leaves the lines as they are, and the test goes on (R141). -/
theorem takeResult_safe (safe : hazardous m j.hazardMv = false) (other : stepOf m ≠ .cap) (bus : u.test.bus = .measure) :
    takeResult m t j u = commanded (recorded m j t) u := by
  rw [← nextStep_holding _ bus]
  cases m with
  | foreignV a b c => exact if_neg (Bool.eq_false_iff.mp safe)
  | loopR | insul => rfl
  | cap => exact absurd rfl other

/-! ## Which results are taken (R150) -/

theorem judgeResult_current (bus : u.test.bus = .measure) (cur : u.test.current = some t) (judging : t.judgement = some j)
    (step : t.current = some (stepOf m)) : judgeResult (lineNumber t.req.line) m u = takeResult m t j u := by
  simp [judgeResult, bus, cur, judging, step]

theorem judgeResult_ignored {n : Nat} (h : ∀ t, u.test.bus = .measure → u.test.current = some t →
    lineNumber t.req.line = n → t.current ≠ some (stepOf m)) : judgeResult n m u = u := by
  unfold judgeResult
  split
  · rfl
  next t cur =>
    split
    · rfl
    · refine if_neg fun taken => ?_
      simp only [Bool.and_eq_true, decide_eq_true_eq] at taken
      obtain ⟨⟨bus, line⟩, step⟩ := taken
      exact h t bus cur line step

end

/-- A result leaves no notice for the end of the step. -/
theorem exec_measurementResult {s : State} (run : s.stage = .run) (n : Nat) (m : Measurement) :
    exec (.measurementResult n m) s = .next (chooseFrame (judgeResult n m (opened s))) := by
  have step : exec (.measurementResult n m) s = .next (closed (judgeResult n m (opened s))) := onRun_run run
  rw [step, closed_quiet (by simp)]

theorem exec_measurementResult_ignored {s : State} {n : Nat} {m : Measurement} (run : s.stage = .run)
    (h : ∀ t, Testing s .measure t → lineNumber t.req.line = n → t.current ≠ some (stepOf m)) :
    exec (.measurementResult n m) s = .next (chooseFrame (opened s)) := by
  rw [exec_measurementResult run, judgeResult_ignored (u := opened s) fun t bus cur => h t ⟨run, bus, cur⟩]

theorem exec_measurementResult_taken {s : State} {t : CurrentTest} {j : Judgement} {m : Measurement} (test : Testing s .measure t)
    (judging : t.judgement = some j) (step : t.current = some (stepOf m)) :
    exec (.measurementResult (lineNumber t.req.line) m) s = .next (chooseFrame (takeResult m t j (opened s))) := by
  obtain ⟨run, bus, cur⟩ := test
  rw [exec_measurementResult run, judgeResult_current (u := opened s) bus cur judging step]

/-- Settles O38: a result of the current step is taken, by the clause of its step; every other is ignored. -/
theorem measurementResultsTaken : Obligations.MeasurementResultsTaken := by
  unfold Obligations.MeasurementResultsTaken
  refine ⟨fun s n m run outside => exec_measurementResult_ignored run fun t test => absurd test (outside t), ?_⟩
  intro s t j m test judging
  have ⟨run, bus, cur⟩ := test
  have only (t' : CurrentTest) : Testing s .measure t' → t' = t :=
    fun ⟨_, _, cur'⟩ => Option.some.inj (cur'.symm.trans cur)
  have measuring : (opened s).test.bus = .measure := bus
  have taken := exec_measurementResult_taken (m := m) test judging
  refine ⟨?foreignV, ?loopR, ?cap, ?insul, ?otherStep, ?otherLine⟩
  case foreignV =>
    rintro a b c rfl step
    refine ⟨fun hazard => ?_, fun safe => ?_⟩
    · rw [taken step, takeResult_hazard ((hazardous_foreignV ..).mpr hazard)]; rfl
    · rw [taken step, takeResult_safe (Bool.eq_false_iff.mpr (mt (hazardous_foreignV ..).mp safe)) nofun measuring]; rfl
  case loopR =>
    rintro v i rfl step
    rw [taken step, takeResult_safe (m := .loopR v i) rfl nofun measuring, recorded, storeValues, loopResistance_eq]
    rfl
  case cap =>
    rintro c rfl step
    rw [taken step, takeResult_cap c measuring]
    rfl
  case insul =>
    rintro v i rfl step
    rw [taken step, takeResult_safe (m := .insul v i) rfl nofun measuring]
    rfl
  case otherStep =>
    intro other
    exact exec_measurementResult_ignored run fun t' test' _ => only t' test' ▸ other
  case otherLine =>
    intro k other
    exact exec_measurementResult_ignored run fun t' test' line => absurd line.symm (only t' test' ▸ other)

end Sys2Proof.Proofs
end
